-- ==== Sys2Proof/Word.lean ====
section
/-! DEFINITION. The widths DBFC computes with. A byte is 8 bits (20_memory R60); every number of
the spec is unsigned (00_scope R11). -/

namespace Sys2Proof

/-- A byte of a storage space, of the envelope or of the command channel (20_memory R60). -/
abbrev Byte := BitVec 8

/-- A `u32` operand of a trace record (30_encoding R99). -/
abbrev U32 := BitVec 32

end Sys2Proof
end

