-- ==== Sys2Proof/Config.lean ====
section
/-! DEFINITION. What an implementation of DBFC fixes: the parameter record of 00_scope R7 with the
constraints of R8, the six storage spaces and their sizes (20_memory R60), and the free values: the
OPEN parameters and the draws (R11), constants without a body. -/

namespace Sys2Proof

/-- The six byte-addressed storage spaces of 20_memory R60. A two-way index is a Bool: `false` is
index 0 and `true` is index 1. -/
inductive Space where
  | fb (i : Bool)   -- image frame buffers `FB[0]` (DOC00's `A`) and `FB[1]` (`B`), R21
  | lb (i : Bool)   -- rotating line buffers, R22
  | rb              -- radar buffer, R23
  | eb              -- envelope buffer, R24
  deriving DecidableEq, Repr

/-- TRANSPORT's answer to a transmit (45_stream_controller R225). -/
inductive TxOutcome where
  | ok
  | writeFailure
  | timeout
  deriving DecidableEq, Repr, Inhabited

/-- The parameter record of 00_scope R7. R3 makes each literal of DOC00 one of its named parameters
(IMG_LINES, SYNC0, SYNC1, CMD_START, CRC_SEED), so that a machine can be built with another value:
every definition reads the record a State carries, and `State.resetOf` takes any that meets R8. -/
structure Params where
  imgLines : Nat
  lineBytes : Nat
  radarSamples : Nat
  radarSampleBytes : Nat
  maxPayload : Nat
  sync0 : Byte
  sync1 : Byte
  cmdStart : Byte
  crcSeed : Byte
  crcPoly : Byte
  /-- TX_TIMEOUT: no rule's result depends on it (R7, 60_exceptions R277). -/
  txTimeout : Nat
  deriving DecidableEq, Repr

/-- LINE_IDX_MAX of 00_scope R7: where the 16-bit line counter saturates. -/
def lineIdxMax : Nat := 65535

/-- The record has DOC00's literals, the defaults of their parameters (00_scope R3, R7). -/
abbrev Params.HasDocLiterals (p : Params) : Prop :=
  p.imgLines = 480 ∧ p.sync0 = 0x55 ∧ p.sync1 = 0x55 ∧ p.cmdStart = 49 ∧ p.crcSeed = 0x15

/-- IMG_FRAME_BYTES (R7). -/
abbrev Params.imgFrameBytes (p : Params) : Nat := p.imgLines * p.lineBytes

/-- RADAR_FRAME_BYTES (R7). -/
abbrev Params.radarFrameBytes (p : Params) : Nat := p.radarSamples * p.radarSampleBytes

/-- The constraints of 00_scope R8. -/
abbrev Params.Valid (p : Params) : Prop :=
  1 ≤ p.imgLines ∧ p.imgLines ≤ 65534 ∧ 1 ≤ p.lineBytes ∧ 1 ≤ p.radarSamples ∧
  1 ≤ p.radarSampleBytes ∧ p.imgFrameBytes ≤ p.maxPayload ∧ p.radarFrameBytes ≤ p.maxPayload ∧
  p.maxPayload ≤ 4294967295 ∧ p.crcSeed ≠ 0

/-- A parameter record that meets R8. A record that does not meet it is refused before a state is
built from it (`State.boot`), so no state carries one. -/
structure ValidParams where
  raw : Params
  valid : raw.Valid
  deriving DecidableEq, Repr

/-- The size in bytes of each storage space (20_memory R60). -/
def Params.sizeOf (p : Params) : Space → Nat
  | .fb _ => p.imgFrameBytes
  | .lb _ => p.lineBytes
  | .rb => p.radarFrameBytes
  | .eb => p.maxPayload + 8

/-! ## Free values: constants with no body (log entries 1, 2, 3, 6) -/

/-- OPEN: CRC_POLY (40_checksum R124). -/
opaque Config.crcPoly : Byte

/-- OPEN: the free number LINE_BYTES is computed from (R7). -/
opaque Config.lineBytesChoice : Nat

/-- OPEN: the free number RADAR_SAMPLES is computed from (R7). -/
opaque Config.radarSamplesChoice : Nat

/-- OPEN: the free number RADAR_SAMPLE_BYTES is computed from (R7). -/
opaque Config.radarSampleBytesChoice : Nat

/-- OPEN: the free number MAX_PAYLOAD is computed from (R7). -/
opaque Config.maxPayloadChoice : Nat

/-- OPEN: TX_TIMEOUT (R7). -/
opaque Config.txTimeout : Nat

/-- The byte that offset `off` of space `sp` holds after the RESET numbered `n`, until it is
written: the draw of 10_state R39, taken once per RESET. -/
opaque Config.powerOn (n : Nat) (sp : Space) (off : Nat) : Byte

/-- TRANSPORT's outcome in the CONSUMER's own move numbered `n` (93 U9). -/
opaque Config.txOutcome (n : Nat) : TxOutcome

/-- The free number the delivered length of move `n` is computed from (93 U8). -/
opaque Config.txDelivered (n : Nat) : Nat

/-- RADAR's `samples_per_frame()` in move `n` (93 U9). -/
opaque Config.radarSpf (n : Nat) : U32

/-- Whether the radar transfer of move `n` fails (93 U9). -/
opaque Config.radarFault (n : Nat) : Bool

/-- Byte `i` of what the radar transfer of move `n` delivers (93 U7, U9). -/
opaque Config.radarByte (n i : Nat) : Byte

/-- The checksum byte computed over a stale view in move `n` (93 U2). -/
opaque Config.staleChecksum (n : Nat) : Byte

/-- Byte `i` of what move `n` reads through a stale view (93 U2). -/
opaque Config.staleByte (n i : Nat) : Byte

/-! ## The parameter record of the machine -/

/-- The parameter record with DOC00's literals (00_scope R3) and the OPEN parameters computed from
free numbers. Every record that meets R8 and has DOC00's literals is one of these
(`Params.ofOpen_covers`). -/
def Params.ofOpen (lineChoice sampleChoice widthChoice payloadChoice timeout : Nat) (poly : Byte) :
    Params :=
  let lineBytes := lineChoice % 8947848 + 1
  let samples := sampleChoice % 4294967295 + 1
  let width := widthChoice % (4294967295 / samples) + 1
  let least := max (480 * lineBytes) (samples * width)
  { imgLines := 480
    lineBytes := lineBytes
    radarSamples := samples
    radarSampleBytes := width
    maxPayload := payloadChoice % (4294967296 - least) + least
    sync0 := 0x55
    sync1 := 0x55
    cmdStart := 49
    crcSeed := 0x15
    crcPoly := poly
    txTimeout := timeout }

/-- Whatever the free numbers are, the record meets R8. -/
theorem Params.ofOpen_valid (l s w m t : Nat) (poly : Byte) :
    (Params.ofOpen l s w m t poly).Valid := by
  have hl : l % 8947848 < 8947848 := Nat.mod_lt _ (by decide)
  have hs : s % 4294967295 < 4294967295 := Nat.mod_lt _ (by decide)
  have hq : 0 < 4294967295 / (s % 4294967295 + 1) := Nat.div_pos (by omega) (by omega)
  have hw : w % (4294967295 / (s % 4294967295 + 1)) + 1 ≤ 4294967295 / (s % 4294967295 + 1) :=
    Nat.mod_lt _ hq
  have hr : (s % 4294967295 + 1) * (w % (4294967295 / (s % 4294967295 + 1)) + 1) ≤ 4294967295 :=
    (Nat.mul_le_mul_left _ hw).trans (Nat.mul_div_le _ _)
  have hi : 480 * (l % 8947848 + 1) ≤ 4294967295 := by omega
  simp only [Params.Valid, Params.ofOpen, Params.imgFrameBytes, Params.radarFrameBytes]
  generalize (s % 4294967295 + 1) * (w % (4294967295 / (s % 4294967295 + 1)) + 1) = r at hr
  generalize 480 * (l % 8947848 + 1) = i at hi
  have hm : m % (4294967296 - max i r) < 4294967296 - max i r := Nat.mod_lt _ (by omega)
  refine ⟨by decide, by decide, by omega, by omega, by omega, by omega, by omega, by omega, by decide⟩

/-- The parameter record of the machine State.reset describes: DOC00's literals (00_scope R3), and a
free value for every OPEN parameter (R7; log entries 1 and 2). -/
def Config.params : ValidParams :=
  { raw := Params.ofOpen Config.lineBytesChoice Config.radarSamplesChoice
      Config.radarSampleBytesChoice Config.maxPayloadChoice Config.txTimeout Config.crcPoly
    valid := Params.ofOpen_valid _ _ _ _ _ _ }

end Sys2Proof
end

