-- ==== Sys2Proof/Syntax.lean ====
section
/-! DEFINITION. The operations of DBFC: one constructor per row of spec/opcode_table.json. The
operands are those of 30_encoding R99, the draws among them (R104: a draw is written in the record
of the operation that consumes it). A length operand `n:u32` that is followed by `n` bytes is the
length of the byte list. -/

namespace Sys2Proof

/-- The draw of ML_IMG_BUILD on a stale view (45_stream_controller R223). -/
structure StaleDraw where
  checksum : Byte
  payload : List Byte
  deriving DecidableEq, Repr

/-- RADAR's answer to a drain (43_radar_adapter R182). `fault` is the record's byte (30_encoding R99). -/
structure RadarDraw where
  spf : U32
  fault : Byte
  data : List Byte
  deriving DecidableEq, Repr

/-- TRANSPORT's answer to a transmit (45_stream_controller R225). -/
structure TxDraw where
  outcome : TxOutcome
  delivered : U32
  deriving DecidableEq, Repr

/-- The operations of DBFC and the other layouts of the opcode table. -/
inductive Instr where
  /-- LINE_DONE, 0x01, PRODUCER (R162). -/
  | lineDone
  /-- FRAME_DONE, 0x02, PRODUCER (R164). -/
  | frameDone
  /-- WRITE_HANDLE, 0x03, PRODUCER (R140). -/
  | writeHandle
  /-- SWAP, 0x04, PRODUCER (R141). -/
  | swap
  /-- TAKE_READY, 0x05, CONSUMER (R142). -/
  | takeReady
  /-- VIEW_READ, 0x06, CONSUMER (R143); the draw is there on a stale view only. -/
  | viewRead (off n : U32) (draw : Option (List Byte))
  /-- VIEW_RELEASE, 0x07, CONSUMER (R144). -/
  | viewRelease
  /-- CHECKSUM, 0x08, CONSUMER (R121). -/
  | checksum (bytes : List Byte)
  /-- FRAME, 0x09, CONSUMER (R200). -/
  | frame (seq : Byte) (payload : List Byte)
  /-- RADAR_POLL, 0x0A, CONSUMER (R181). -/
  | radarPoll
  /-- RADAR_DRAIN, 0x0B, CONSUMER (R182). -/
  | radarDrain (expected : U32) (answer : RadarDraw)
  /-- TRANSMIT, 0x0C, CONSUMER (R225). -/
  | transmit (answer : TxDraw)
  /-- ML_CMD, 0x10, CONSUMER (R221). -/
  | mlCmd
  /-- ML_IMG_TAKE, 0x11, CONSUMER (R222). -/
  | mlImgTake
  /-- ML_IMG_BUILD, 0x12, CONSUMER (R223); the draw is there on a stale view only. -/
  | mlImgBuild (draw : Option StaleDraw)
  /-- ML_IMG_TX, 0x13, CONSUMER (R224); the answer is there when STREAMING = 1 only. -/
  | mlImgTx (answer : Option TxDraw)
  /-- ML_RAD_POLL, 0x14, CONSUMER (R226). -/
  | mlRadPoll
  /-- ML_RAD_DRAIN, 0x15, CONSUMER (R227). -/
  | mlRadDrain (answer : RadarDraw)
  /-- ML_RAD_BUILD, 0x16, CONSUMER (R228). -/
  | mlRadBuild
  /-- ML_RAD_TX, 0x17, CONSUMER (R229). -/
  | mlRadTx (answer : TxDraw)
  /-- CAP_WRITE, 0x20, CAPTURE (R161). -/
  | capWrite (slot : Bool) (off : U32) (data : List Byte)
  /-- RADAR_BURST, 0x21, RADAR (R180). -/
  | radarBurst
  /-- HOST_CMD, 0x22, HOST (R235). -/
  | hostCmd (byte : Byte)
  /-- RESET, 0x3F, the platform (R300). -/
  | reset
  /-- CMD_START, the command byte of R96 that means start. -/
  | cmdStart
  /-- CMD_STOP, any other command byte (R96, R97). -/
  | cmdStop (cmd : Byte)
  /-- ENVELOPE, the layout of R91: sequence byte, checksum byte and payload; the length field is the
  payload's length. -/
  | envelope (seq checksum : Byte) (payload : List Byte)
  /-- HANDOFF, the layout of the control word (R98). -/
  | handoff (sel rdy : Bool)
  deriving DecidableEq, Repr

/-- The agents of 00_scope R10, and the platform, which performs RESET (R300). -/
inductive Agent where
  | producer
  | consumer
  | capture
  | radar
  | host
  | platform
  deriving DecidableEq, Repr

/-- Which agent performs an operation (30_encoding R99). The spec gives the command and envelope rows no
agent: the model gives them to the CONSUMER, where R221 and R200 have their effect (log entries 8 and
9). The control word's layout is no operation of anyone. -/
def Instr.agent : Instr → Option Agent
  | .lineDone => some .producer
  | .frameDone => some .producer
  | .writeHandle => some .producer
  | .swap => some .producer
  | .takeReady => some .consumer
  | .viewRead _ _ _ => some .consumer
  | .viewRelease => some .consumer
  | .checksum _ => some .consumer
  | .frame _ _ => some .consumer
  | .radarPoll => some .consumer
  | .radarDrain _ _ => some .consumer
  | .transmit _ => some .consumer
  | .mlCmd => some .consumer
  | .mlImgTake => some .consumer
  | .mlImgBuild _ => some .consumer
  | .mlImgTx _ => some .consumer
  | .mlRadPoll => some .consumer
  | .mlRadDrain _ => some .consumer
  | .mlRadBuild => some .consumer
  | .mlRadTx _ => some .consumer
  | .capWrite _ _ _ => some .capture
  | .radarBurst => some .radar
  | .hostCmd _ => some .host
  | .reset => some .platform
  | .cmdStart => some .consumer
  | .cmdStop _ => some .consumer
  | .envelope _ _ _ => some .consumer
  | .handoff _ _ => none

end Sys2Proof
end

