-- ==== Sys2Proof/WellFormed.lean ====
section
/-! DEFINITION. Which operations have a record in a given situation (30_encoding R99): a length
operand fits 32 bits, and the draws are those the situation asks for. -/

namespace Sys2Proof

/-- What the operands of a record depend on besides its bytes: the parameters, whether the view is
stale (VIEW_READ, ML_IMG_BUILD) and whether STREAMING is 1 (ML_IMG_TX), all of R99's table. -/
structure Ctx where
  par : ValidParams
  stale : Bool
  streaming : Bool
  deriving DecidableEq, Repr

/-- A byte count that a `u32` operand can hold. -/
def fitsU32 (n : Nat) : Bool := decide (n < 4294967296)

/-- VIEW_READ's draw is there exactly on a stale view, and has `n` bytes (R143). -/
def viewDrawOk (stale : Bool) (n : U32) : Option (List Byte) → Bool
  | none => !stale
  | some d => stale && decide (d.length = n.toNat)

/-- ML_IMG_BUILD's draw is there exactly on a stale view, and is a whole frame (R223). -/
def staleDrawOk (c : Ctx) : Option StaleDraw → Bool
  | none => !c.stale
  | some d => c.stale && decide (d.payload.length = c.par.raw.imgFrameBytes)

/-- A radar answer delivers RADAR_FRAME_BYTES bytes (R182). -/
def radarDrawOk (c : Ctx) (a : RadarDraw) : Bool :=
  decide (a.data.length = c.par.raw.radarFrameBytes)

/-- An operation that R99 (or R91, R96 to R98 for the other layouts) gives an encoding in `c`. -/
def WellFormed (c : Ctx) : Instr → Bool
  | .lineDone => true
  | .frameDone => true
  | .writeHandle => true
  | .swap => true
  | .takeReady => true
  | .viewRead _ n draw => viewDrawOk c.stale n draw
  | .viewRelease => true
  | .checksum bytes => fitsU32 bytes.length
  | .frame _ payload => fitsU32 payload.length
  | .radarPoll => true
  | .radarDrain _ answer => radarDrawOk c answer
  | .transmit _ => true
  | .mlCmd => true
  | .mlImgTake => true
  | .mlImgBuild draw => staleDrawOk c draw
  | .mlImgTx answer => answer.isSome == c.streaming
  | .mlRadPoll => true
  | .mlRadDrain answer => radarDrawOk c answer
  | .mlRadBuild => true
  | .mlRadTx _ => true
  | .capWrite _ _ data => fitsU32 data.length
  | .radarBurst => true
  | .hostCmd _ => true
  | .reset => true
  | .cmdStart => true
  | .cmdStop cmd => cmd != c.par.raw.cmdStart
  | .envelope _ _ payload => fitsU32 payload.length
  | .handoff _ _ => true

end Sys2Proof
end

