-- ==== Sys2Proof/Decode.lean ====
section
/-! DEFINITION. The decoder and the encoder of every layout of the opcode table: the binary trace
records (30_encoding R99, R104), the command byte (R96, R97), the envelope (R91 to R95) and the
control word (R98). The decoder is total on any bytes and rejects by name. -/

namespace Sys2Proof

/-- Why bytes are no record. -/
inductive DecodeError where
  /-- The bytes end before the record does. -/
  | truncated
  /-- The OPSEL code names no operation (R102). -/
  | unknownOpsel (code : Byte)
  /-- An operand with a stated range (slot, outcome) holds a value outside it (R99). -/
  | badOperand
  /-- The bytes do not have the layout's fixed bits (R91, R98). -/
  | badLayout
  deriving DecidableEq, Repr

/-- The four kinds of layout in the opcode table's column `format`. -/
inductive Format where
  | opsel
  | command
  | envelope
  | controlWord
  deriving DecidableEq, Repr

/-! ## Multi-byte numbers (20_memory R62) -/

/-- `le32` of 00_scope R11: the four bytes of `n`, least significant first. -/
def le32 (n : Nat) : List Byte :=
  [BitVec.ofNat 8 n, BitVec.ofNat 8 (n / 256), BitVec.ofNat 8 (n / 65536),
    BitVec.ofNat 8 (n / 16777216)]

/-- `unle32` of 00_scope R11. -/
def unle32 (b0 b1 b2 b3 : Byte) : Nat :=
  b0.toNat + 256 * b1.toNat + 65536 * b2.toNat + 16777216 * b3.toNat

/-! ## Reading operands -/

/-- The first `n` bytes and the rest, if there are `n`. -/
def takeBytes : Nat → List Byte → Option (List Byte × List Byte)
  | 0, bs => some ([], bs)
  | _ + 1, [] => none
  | n + 1, b :: bs =>
    match takeBytes n bs with
    | some (front, rest) => some (b :: front, rest)
    | none => none

/-- A `u32` operand as a number (R99: little-endian). -/
def readNat32 : List Byte → Option (Nat × List Byte)
  | b0 :: b1 :: b2 :: b3 :: rest => some (unle32 b0 b1 b2 b3, rest)
  | _ => none

/-- `n:u32` and then `n` bytes. -/
def readCounted (bs : List Byte) : Option (List Byte × List Byte) :=
  match readNat32 bs with
  | some (n, rest) => takeBytes n rest
  | none => none

/-- `outcome:u8` (0 Ok, 1 WriteFailure, 2 Timeout). -/
def outcomeOf (b : Byte) : Option TxOutcome :=
  if b = 0 then some .ok
  else if b = 1 then some .writeFailure
  else if b = 2 then some .timeout
  else none

/-- A one-byte operand that is 0 or 1. -/
def bitOf (b : Byte) : Option Bool :=
  if b = 0 then some false else if b = 1 then some true else none

/-- The TRANSPORT draw: `outcome:u8`, `delivered:u32`. -/
def readTx : List Byte → Except DecodeError (TxDraw × List Byte)
  | [] => .error .truncated
  | b :: bs =>
    match readNat32 bs with
    | none => .error .truncated
    | some (d, rest) =>
      match outcomeOf b with
      | none => .error .badOperand
      | some o => .ok (⟨o, BitVec.ofNat 32 d⟩, rest)

/-- The RADAR draw: `spf:u32`, `fault:u8`, `data[size]`. -/
def readRadar (size : Nat) (bs : List Byte) : Except DecodeError (RadarDraw × List Byte) :=
  match readNat32 bs with
  | none => .error .truncated
  | some (_, []) => .error .truncated
  | some (spf, f :: bs') =>
    match takeBytes size bs' with
    | none => .error .truncated
    | some (data, rest) => .ok (⟨BitVec.ofNat 32 spf, f, data⟩, rest)

/-- VIEW_READ's operands: `off:u32`, `n:u32`, and on a stale view `data[n]`. -/
def readViewRead (stale : Bool) (bs : List Byte) : Except DecodeError (Instr × List Byte) :=
  match readNat32 bs with
  | none => .error .truncated
  | some (off, bs1) =>
    match readNat32 bs1 with
    | none => .error .truncated
    | some (n, bs2) =>
      if stale then
        match takeBytes n bs2 with
        | none => .error .truncated
        | some (d, rest) => .ok (.viewRead (BitVec.ofNat 32 off) (BitVec.ofNat 32 n) (some d), rest)
      else .ok (.viewRead (BitVec.ofNat 32 off) (BitVec.ofNat 32 n) none, bs2)

/-- CHECKSUM's operands: `n:u32`, `bytes[n]`. -/
def readChecksum (bs : List Byte) : Except DecodeError (Instr × List Byte) :=
  match readCounted bs with
  | none => .error .truncated
  | some (bytes, rest) => .ok (.checksum bytes, rest)

/-- FRAME's operands: `seq:u8`, `n:u32`, `payload[n]`. -/
def readFrame : List Byte → Except DecodeError (Instr × List Byte)
  | [] => .error .truncated
  | seq :: bs =>
    match readCounted bs with
    | none => .error .truncated
    | some (payload, rest) => .ok (.frame seq payload, rest)

/-- RADAR_DRAIN's operands: `expected:u32` and the RADAR draw. -/
def readRadarDrain (size : Nat) (bs : List Byte) : Except DecodeError (Instr × List Byte) :=
  match readNat32 bs with
  | none => .error .truncated
  | some (expected, bs1) =>
    match readRadar size bs1 with
    | .error e => .error e
    | .ok (answer, rest) => .ok (.radarDrain (BitVec.ofNat 32 expected) answer, rest)

/-- ML_RAD_DRAIN's operands: the RADAR draw. -/
def readMlRadDrain (size : Nat) (bs : List Byte) : Except DecodeError (Instr × List Byte) :=
  match readRadar size bs with
  | .error e => .error e
  | .ok (answer, rest) => .ok (.mlRadDrain answer, rest)

/-- TRANSMIT's operands: the TRANSPORT draw. -/
def readTransmit (bs : List Byte) : Except DecodeError (Instr × List Byte) :=
  match readTx bs with
  | .error e => .error e
  | .ok (answer, rest) => .ok (.transmit answer, rest)

/-- ML_RAD_TX's operands: the TRANSPORT draw. -/
def readMlRadTx (bs : List Byte) : Except DecodeError (Instr × List Byte) :=
  match readTx bs with
  | .error e => .error e
  | .ok (answer, rest) => .ok (.mlRadTx answer, rest)

/-- ML_IMG_TX's operands: the TRANSPORT draw when STREAMING = 1, else none. -/
def readMlImgTx (streaming : Bool) (bs : List Byte) : Except DecodeError (Instr × List Byte) :=
  if streaming then
    match readTx bs with
    | .error e => .error e
    | .ok (answer, rest) => .ok (.mlImgTx (some answer), rest)
  else .ok (.mlImgTx none, bs)

/-- ML_IMG_BUILD's operands: on a stale view `checksum:u8`, `payload[size]`, else none. -/
def readMlImgBuild (stale : Bool) (size : Nat) (bs : List Byte) :
    Except DecodeError (Instr × List Byte) :=
  if stale then
    match bs with
    | [] => .error .truncated
    | cks :: bs1 =>
      match takeBytes size bs1 with
      | none => .error .truncated
      | some (payload, rest) => .ok (.mlImgBuild (some ⟨cks, payload⟩), rest)
  else .ok (.mlImgBuild none, bs)

/-- CAP_WRITE's operands: `slot:u8`, `off:u32`, `n:u32`, `data[n]`. -/
def readCapWrite : List Byte → Except DecodeError (Instr × List Byte)
  | [] => .error .truncated
  | s :: bs =>
    match readNat32 bs with
    | none => .error .truncated
    | some (off, bs1) =>
      match readCounted bs1 with
      | none => .error .truncated
      | some (data, rest) =>
        match bitOf s with
        | none => .error .badOperand
        | some slot => .ok (.capWrite slot (BitVec.ofNat 32 off) data, rest)

/-- HOST_CMD's operand: `byte:u8`. -/
def readHostCmd : List Byte → Except DecodeError (Instr × List Byte)
  | [] => .error .truncated
  | b :: rest => .ok (.hostCmd b, rest)

/-! ## The decoders -/

/-- The operation an OPSEL code and the bytes after it stand for (R99, R102). -/
def decodeOpsel (c : Ctx) (code : Byte) (bs : List Byte) : Except DecodeError (Instr × List Byte) :=
  match code.toNat with
  | 0x01 => .ok (.lineDone, bs)
  | 0x02 => .ok (.frameDone, bs)
  | 0x03 => .ok (.writeHandle, bs)
  | 0x04 => .ok (.swap, bs)
  | 0x05 => .ok (.takeReady, bs)
  | 0x06 => readViewRead c.stale bs
  | 0x07 => .ok (.viewRelease, bs)
  | 0x08 => readChecksum bs
  | 0x09 => readFrame bs
  | 0x0A => .ok (.radarPoll, bs)
  | 0x0B => readRadarDrain c.par.raw.radarFrameBytes bs
  | 0x0C => readTransmit bs
  | 0x10 => .ok (.mlCmd, bs)
  | 0x11 => .ok (.mlImgTake, bs)
  | 0x12 => readMlImgBuild c.stale c.par.raw.imgFrameBytes bs
  | 0x13 => readMlImgTx c.streaming bs
  | 0x14 => .ok (.mlRadPoll, bs)
  | 0x15 => readMlRadDrain c.par.raw.radarFrameBytes bs
  | 0x16 => .ok (.mlRadBuild, bs)
  | 0x17 => readMlRadTx bs
  | 0x20 => readCapWrite bs
  | 0x21 => .ok (.radarBurst, bs)
  | 0x22 => readHostCmd bs
  | 0x3F => .ok (.reset, bs)
  | _ => .error (.unknownOpsel code)

/-- The first record of a binary trace (R104), and the rest of the trace. -/
def decodeRecord (c : Ctx) : List Byte → Except DecodeError (Instr × List Byte)
  | [] => .error .truncated
  | code :: bs => decodeOpsel c code bs

/-- The command a byte stands for: CMD_START is tested first, every other byte is CMD_STOP (R97). -/
def decodeCommand (p : Params) (b : Byte) : Instr :=
  if b = p.cmdStart then .cmdStart else .cmdStop b

/-- The envelope at the head of the bytes (R91, R95), and what follows it. The checksum byte is
reported, not verified (R126). -/
def decodeEnvelope (p : Params) : List Byte → Except DecodeError (Instr × List Byte)
  | s0 :: s1 :: seq :: bs =>
    if s0 = p.sync0 ∧ s1 = p.sync1 then
      match readNat32 bs with
      | some (len, cks :: bs1) =>
        match takeBytes len bs1 with
        | some (payload, rest) => .ok (.envelope seq cks payload, rest)
        | none => .error .truncated
      | _ => .error .truncated
    else .error .badLayout
  | _ => .error .truncated

/-- The control word (R98): bit 0 is RDY, bit 1 is SEL, all higher bits are 0. -/
def decodeHandoff (b : Byte) : Except DecodeError Instr :=
  if b.toNat < 4 then .ok (.handoff (b.getLsbD 1) (b.getLsbD 0)) else .error .badLayout

/-- The decoder of each layout of the table. -/
def decode (c : Ctx) (f : Format) (bs : List Byte) : Except DecodeError (Instr × List Byte) :=
  match f with
  | .opsel => decodeRecord c bs
  | .command =>
    match bs with
    | [] => .error .truncated
    | b :: rest => .ok (decodeCommand c.par.raw b, rest)
  | .envelope => decodeEnvelope c.par.raw bs
  | .controlWord =>
    match bs with
    | [] => .error .truncated
    | b :: rest =>
      match decodeHandoff b with
      | .error e => .error e
      | .ok i => .ok (i, rest)

/-! ## The encoder -/

/-- Which layout of the table an operation's words have. -/
def Instr.format : Instr → Format
  | .lineDone => .opsel
  | .frameDone => .opsel
  | .writeHandle => .opsel
  | .swap => .opsel
  | .takeReady => .opsel
  | .viewRead _ _ _ => .opsel
  | .viewRelease => .opsel
  | .checksum _ => .opsel
  | .frame _ _ => .opsel
  | .radarPoll => .opsel
  | .radarDrain _ _ => .opsel
  | .transmit _ => .opsel
  | .mlCmd => .opsel
  | .mlImgTake => .opsel
  | .mlImgBuild _ => .opsel
  | .mlImgTx _ => .opsel
  | .mlRadPoll => .opsel
  | .mlRadDrain _ => .opsel
  | .mlRadBuild => .opsel
  | .mlRadTx _ => .opsel
  | .capWrite _ _ _ => .opsel
  | .radarBurst => .opsel
  | .hostCmd _ => .opsel
  | .reset => .opsel
  | .cmdStart => .command
  | .cmdStop _ => .command
  | .envelope _ _ _ => .envelope
  | .handoff _ _ => .controlWord

/-- `outcome:u8` (R99). -/
def outcomeCode : TxOutcome → Byte
  | .ok => 0
  | .writeFailure => 1
  | .timeout => 2

/-- A 0 or 1 operand byte. -/
def bitCode (b : Bool) : Byte := if b then 1 else 0

/-- A byte count and the bytes. -/
def counted (bs : List Byte) : List Byte := le32 bs.length ++ bs

/-- The TRANSPORT draw's bytes. -/
def txBytes (a : TxDraw) : List Byte := outcomeCode a.outcome :: le32 a.delivered.toNat

/-- The RADAR draw's bytes. -/
def radarBytes (a : RadarDraw) : List Byte := le32 a.spf.toNat ++ a.fault :: a.data

/-- The envelope of R91: sync bytes, sequence byte, `le32` of the payload's length, checksum byte,
payload. -/
def envelopeBytes (p : Params) (seq cks : Byte) (payload : List Byte) : List Byte :=
  p.sync0 :: p.sync1 :: seq :: (le32 payload.length ++ cks :: payload)

/-- The control word (R98). -/
def handoffWord (sel rdy : Bool) : BitVec 2 :=
  (if sel then 2 else 0) + (if rdy then 1 else 0)

/-- The words of an operation: its record (R99), command byte (R96), envelope (R91) or control word
(R98). -/
def encode (c : Ctx) : Instr → List Byte
  | .lineDone => [0x01]
  | .frameDone => [0x02]
  | .writeHandle => [0x03]
  | .swap => [0x04]
  | .takeReady => [0x05]
  | .viewRead off n draw => 0x06 :: (le32 off.toNat ++ (le32 n.toNat ++ draw.getD []))
  | .viewRelease => [0x07]
  | .checksum bytes => 0x08 :: counted bytes
  | .frame seq payload => 0x09 :: seq :: counted payload
  | .radarPoll => [0x0A]
  | .radarDrain expected answer => 0x0B :: (le32 expected.toNat ++ radarBytes answer)
  | .transmit answer => 0x0C :: txBytes answer
  | .mlCmd => [0x10]
  | .mlImgTake => [0x11]
  | .mlImgBuild none => [0x12]
  | .mlImgBuild (some d) => 0x12 :: d.checksum :: d.payload
  | .mlImgTx none => [0x13]
  | .mlImgTx (some answer) => 0x13 :: txBytes answer
  | .mlRadPoll => [0x14]
  | .mlRadDrain answer => 0x15 :: radarBytes answer
  | .mlRadBuild => [0x16]
  | .mlRadTx answer => 0x17 :: txBytes answer
  | .capWrite slot off data => 0x20 :: bitCode slot :: (le32 off.toNat ++ counted data)
  | .radarBurst => [0x21]
  | .hostCmd byte => [0x22, byte]
  | .reset => [0x3F]
  | .cmdStart => [c.par.raw.cmdStart]
  | .cmdStop cmd => [cmd]
  | .envelope seq cks payload => envelopeBytes c.par.raw seq cks payload
  | .handoff sel rdy => [(handoffWord sel rdy).zeroExtend 8]

/-! ## The opcode table's words -/

/-- `count` bytes of the number `w`, the least significant first. -/
def bytesOfNat : Nat → Nat → List Byte
  | 0, _ => []
  | count + 1, w => BitVec.ofNat 8 w :: bytesOfNat count (w / 256)

/-- Zero bytes for the operands the table gives no bits: enough for any record whose counts are 0. -/
def operandZeros (c : Ctx) : List Byte :=
  List.replicate (c.par.raw.imgFrameBytes + c.par.raw.radarFrameBytes + 16) 0

/-- The ML operation's phase number, for the codes `0x10 + PHASE` of R99. -/
def mlPhaseOf (code : Byte) : Option (BitVec 3) :=
  if code.extractLsb' 3 5 = 2#5 then some (code.extractLsb' 0 3) else none

/-- An 8-bit row: a trace record when the code is assigned (R99), else a command byte (R96, R97). -/
def decodeTableByte (c : Ctx) (b : Byte) : Option Instr :=
  match decodeRecord c (b :: operandZeros c) with
  | .ok (i, _) => some i
  | .error (.unknownOpsel _) => some (decodeCommand c.par.raw b)
  | .error _ => none

/-- The situation right after reset: no stale view, STREAMING = 0 (10_state R39). -/
def Ctx.atReset : Ctx := { par := Config.params, stale := false, streaming := false }

/-- The operation the decoder reads from a row's bits (log entry 18). 8 bits: a record or a command
byte. 64 bits: the envelope's header, whose row writes header byte 0 leftmost, with as many zero
payload bytes as the header's length says. 2 bits: the control word. -/
def decodeTableWord (nbits w : Nat) : Option Instr :=
  let c := Ctx.atReset
  if nbits = 8 then decodeTableByte c (BitVec.ofNat 8 w)
  else if nbits = 64 then
    match decodeEnvelope c.par.raw
        ((bytesOfNat 8 w).reverse ++
          List.replicate
            (unle32 (BitVec.ofNat 8 (w / 4294967296)) (BitVec.ofNat 8 (w / 16777216))
              (BitVec.ofNat 8 (w / 65536)) (BitVec.ofNat 8 (w / 256))) 0) with
    | .ok (i, _) => some i
    | .error _ => none
  else if nbits = 2 then
    match decodeHandoff (BitVec.ofNat 8 w) with
    | .ok i => some i
    | .error _ => none
  else none

end Sys2Proof
end

