-- ==== Sys2Proof/Machine/State.lean ====
section
/-! DEFINITION. The state of DBFC (10_state R20), plain data; the reasons a step stops; the state
after reset (R39) and what comes before it (70_reset_and_hazards R302). -/

namespace Sys2Proof.Machine

/-- The stream controller's position in the main loop (10_state R35). -/
inductive Phase where
  | cmd        -- PH_CMD
  | imgTake    -- PH_IMG_TAKE
  | imgBuild   -- PH_IMG_BUILD
  | imgTx      -- PH_IMG_TX
  | radPoll    -- PH_RAD_POLL
  | radDrain   -- PH_RAD_DRAIN
  | radBuild   -- PH_RAD_BUILD
  | radTx      -- PH_RAD_TX
  deriving DecidableEq, Repr

/-- The control word shared by the two domains (10_state R25): `sel` is the index of the write
target, `rdy` says that a completed frame waits in the other buffer. Its bit layout is `handoffWord`. -/
structure Handoff where
  sel : Bool
  rdy : Bool
  deriving DecidableEq, Repr

/-- The error kinds of 60_exceptions R260. -/
inductive ErrorKind where
  | malformedFrame
  | sizeMismatch
  | hardwareFault
  | transportWriteFailure
  | transportTimeout
  | hardwareInitFailure
  | payloadTooLarge
  deriving DecidableEq, Repr

/-- What an error records (60_exceptions R260, column "recorded value"). -/
inductive ErrorInfo where
  | none
  | count (lines : Nat)
  | sizes (expected spf : Nat)
  | length (len : Nat)
  deriving DecidableEq, Repr

/-- A raised error, and an event `(kind, info)` of DIAGLOG (00_scope R11, 10_state R37). -/
structure Diag where
  kind : ErrorKind
  info : ErrorInfo
  deriving DecidableEq, Repr

/-- How the last operation ended: what it returned, or the error it raised (00_scope R11). -/
inductive Ret where
  | none                     -- the operation has no result
  | handle (i : Bool)        -- WRITE_HANDLE's buffer index
  | ready (i : Bool)         -- TAKE_READY's `Ready(idx)`
  | notReady                 -- TAKE_READY's `NotReady`
  | bytes (bs : List Byte)   -- VIEW_READ's bytes, FRAME's envelope
  | byte (b : Byte)          -- CHECKSUM's value
  | bit (b : Bool)           -- RADAR_POLL's bit
  | ok                       -- RADAR_DRAIN's and TRANSMIT's `Ok`
  | raised (d : Diag)        -- `raise <Kind>(info)`
  deriving DecidableEq, Repr

/-- What has been written into a storage space since the last RESET: (offset, byte) pairs, the
offsets strictly rising. An offset that is not listed holds that RESET's draw (log entry 3). -/
abbrev Memory := List Host.Cell

/-- The six storage spaces of 20_memory R60. -/
structure Store where
  fb0 : Memory
  fb1 : Memory
  lb0 : Memory
  lb1 : Memory
  rb : Memory
  eb : Memory
  deriving DecidableEq, Repr

/-- The state of DBFC: 10_state R20's elements, the parameter record (R40(a): written by nothing),
and the model's own `ret`, `trace`, `powerUps` and `draws`. -/
structure State where
  /-- The parameter record of 00_scope R7. -/
  par : ValidParams
  /-- FB[0], FB[1], LB[0], LB[1], RB, EB (R21 to R24). -/
  store : Store
  /-- EB_LEN (R24). -/
  ebLen : Nat
  /-- HANDOFF (R25). -/
  handoff : Handoff
  /-- LINE_IDX (R27). -/
  lineIdx : BitVec 16
  /-- LB_SLOT (R28). -/
  lbSlot : Bool
  /-- AVAIL (R31). -/
  avail : Bool
  /-- STREAMING (R32). -/
  streaming : Bool
  /-- SEQ (R33). -/
  seq : Byte
  /-- SEND_CNT (R34). -/
  sendCnt : BitVec 32
  /-- PHASE (R35). -/
  phase : Phase
  /-- VIEW (R36): `none` is NONE. -/
  view : Option Bool
  /-- VIEW_STALE (R36). -/
  viewStale : Bool
  /-- CMDQ (R37), the head first. -/
  cmdq : List Byte
  /-- TXLOG (R37), the oldest byte first. -/
  txlog : List Byte
  /-- DIAGLOG (R37), the oldest event first. -/
  diaglog : List Diag
  /-- The model's own: how the last operation ended (log entry 7). -/
  ret : Ret
  /-- The model's own: the pending records, in the binary form of 30_encoding R104 (log entry 4). -/
  trace : List Byte
  /-- The model's own: how many RESETs have drawn the buffers' contents (log entry 3). -/
  powerUps : Nat
  /-- The model's own: which free draws the CONSUMER's own next move takes (log entry 6). -/
  draws : Nat
  deriving DecidableEq, Repr

/-- Why the machine stops for good. -/
inductive Fault where
  /-- Bring-up failed: "fatal at startup only, outside core scope" (60_exceptions R260, R267;
  70_reset_and_hazards R302). Raised by `State.boot`, before there is a state; no step raises it.
  Safe: nothing runs. -/
  | hardwareInitFailure
  deriving DecidableEq, Repr

/-- Why the spec gives no transition (`refuse(reason)`, 00_scope R11, R14). -/
inductive Refusal where
  /-- An operation with no meaning yet. Raised by an arm of `exec`; no arm does. Safe. -/
  | notModelled (mnemonic : String)
  /-- `refuse(UnknownOpsel)`, 30_encoding R102. Raised by `step`'s decoder. Safe: the spec's own. -/
  | unknownOpsel (code : Byte)
  /-- The trace ends inside a record (R99, R104). Raised by `step`'s decoder. Safe: it is no record. -/
  | truncatedRecord
  /-- A record whose slot or outcome operand is outside the range R161 and R225 give it. Raised
  by `step`'s decoder. Safe: it is no record. -/
  | badOperand
  /-- A record whose draw operands are not the ones its rule asks for in this state (R99). Raised by
  the operations that take draws, on an operation that is not well-formed here, and by the notation
  ITERATE on a missing draw (log entries 13 and 26). Safe: it is no record. -/
  | drawMismatch
  /-- A failed transmit's `delivered` is above EB_LEN (45_stream_controller R225, vector T-SC-15).
  Raised by TRANSMIT and the ML transmits. Safe: the spec's own. -/
  | deliveredOutOfRange
  /-- `refuse(WrongPhase)`, 30_encoding R102. Raised by the ML operations. Safe: the spec's own. -/
  | wrongPhase
  /-- `refuse(NoView)`, 41_buffer_pair R143. Raised by VIEW_READ and ML_IMG_BUILD. Safe: the spec's own. -/
  | noView
  /-- `refuse(OutOfRange)`, 20_memory R61. Raised by MemRead and MemWrite. Safe: the spec's own. -/
  | outOfRange
  /-- `refuse(PayloadTooLarge)`, 44_envelope_framer R202, with the error as R200 raises it: its kind
  and the payload's length (60_exceptions R260). Raised by FRAME and ENVELOPE. Safe: the spec's own. -/
  | payloadTooLarge (error : Diag)
  /-- `refuse(ConfigFatal)`, 00_scope R8. Raised by `State.boot`, before there is a state. Safe: the
  spec's own. -/
  | configFatal
  /-- The control word's layout is "not an instruction" (opcode table, row HANDOFF). Raised by that
  row's arm. Safe: R26(iii) lets nothing but SWAP and TAKE_READY write the word. -/
  | notAnOperation
  deriving DecidableEq, Repr

/-- No byte of any space written yet. -/
def Store.empty : Store := { fb0 := [], fb1 := [], lb0 := [], lb1 := [], rb := [], eb := [] }

/-- The state right after RESET of a machine built with the parameters `p` (10_state R39), any that
meet 00_scope R8: another value for a literal of DOC00 is another `p` (R3). -/
def State.resetOf (p : ValidParams) : State :=
  { par := p
    store := Store.empty
    ebLen := 0
    handoff := { sel := false, rdy := false }
    lineIdx := 0
    lbSlot := false
    avail := false
    streaming := false
    seq := 0
    sendCnt := 0
    phase := .cmd
    view := none
    viewStale := false
    cmdq := []
    txlog := []
    diaglog := []
    ret := .none
    trace := []
    powerUps := 0
    draws := 0 }

/-- The machine right after reset (10_state R39), with DOC00's literals and every OPEN parameter free. -/
def State.reset : State := State.resetOf Config.params

end Sys2Proof.Machine
end

