-- ==== Sys2Proof/Machine/Ops.lean ====
section
/-! DEFINITION. The named operations over storage, queues and control state that the meanings
share, and ending an operation with an error (00_scope R11, 60_exceptions R260). -/

namespace Sys2Proof.Machine

/-! ## Storage (20_memory R60, R61) -/

/-- The byte listed at an offset: `none` if it has not been written since RESET. -/
def Memory.get? : Memory → Nat → Option Byte
  | [], _ => none
  | (b, v) :: m, a => if b = a then some v else get? m a

/-- Write one byte, keeping the offsets strictly rising. -/
def Memory.set : Memory → Nat → Byte → Memory
  | [], a, v => [(a, v)]
  | (b, w) :: m, a, v =>
    if a < b then (a, v) :: (b, w) :: m
    else if a = b then (a, v) :: m
    else (b, w) :: set m a v

/-- Write a byte sequence from an offset upward. -/
def Memory.setAll : Memory → Nat → List Byte → Memory
  | m, _, [] => m
  | m, a, v :: vs => setAll (m.set a v) (a + 1) vs

/-- The canonical form: offsets strictly rising, all below `size`. -/
abbrev Memory.wf (size : Nat) (m : Memory) : Prop :=
  m.Pairwise (fun c d => c.1 < d.1) ∧ ∀ c ∈ m, c.1 < size

/-- One of the six spaces. -/
def Store.get (st : Store) : Space → Memory
  | .fb false => st.fb0
  | .fb true => st.fb1
  | .lb false => st.lb0
  | .lb true => st.lb1
  | .rb => st.rb
  | .eb => st.eb

/-- Replace one of the six spaces. -/
def Store.put (st : Store) (sp : Space) (m : Memory) : Store :=
  match sp with
  | .fb false => { st with fb0 := m }
  | .fb true => { st with fb1 := m }
  | .lb false => { st with lb0 := m }
  | .lb true => { st with lb1 := m }
  | .rb => { st with rb := m }
  | .eb => { st with eb := m }

/-- The size of a space (R60). -/
def State.sizeOf (s : State) (sp : Space) : Nat := s.par.raw.sizeOf sp

/-- The byte at an offset of a space: what was last written there, else the draw of the last RESET
(10_state R39; log entry 3). -/
def State.byteAt (s : State) (sp : Space) (a : Nat) : Byte :=
  (Memory.get? (s.store.get sp) a).getD (Config.powerOn s.powerUps sp a)

/-- The `n` bytes from an offset. -/
def State.readBytes (s : State) (sp : Space) : Nat → Nat → List Byte
  | _, 0 => []
  | a, n + 1 => s.byteAt sp a :: State.readBytes s sp (a + 1) n

/-- Write a byte sequence into a space from an offset; no other byte changes. -/
def State.writeBytes (s : State) (sp : Space) (a : Nat) (bs : List Byte) : State :=
  { s with store := s.store.put sp (Memory.setAll (s.store.get sp) a bs) }

/-- `MemRead(S, off, n)` (R61). -/
def memRead (s : State) (sp : Space) (off n : Nat) : Except Refusal (List Byte) :=
  if s.sizeOf sp < off + n then .error .outOfRange else .ok (s.readBytes sp off n)

/-- `MemWrite(S, off, len(v), v)` (R61): one transition, all the bytes or none. -/
def memWrite (s : State) (sp : Space) (off : Nat) (v : List Byte) : Except Refusal State :=
  if s.sizeOf sp < off + v.length then .error .outOfRange else .ok (s.writeBytes sp off v)

/-! ## How an operation ends -/

/-- The operation's result (the pseudocode's `return`). -/
def State.returns (s : State) (r : Ret) : State := { s with ret := r }

/-- `raise <Kind>(info)`: the operation ends with the named error. Nothing else changes here: DBFC
has no vector, saves nothing and masks nothing (00_scope R11, 60_exceptions R261, R273); the state
an error changes is in the rule that raises it. -/
def State.raises (s : State) (d : Diag) : State := s.returns (.raised d)

/-- `emit DIAG(kind, info)` (00_scope R11). -/
def State.emit (s : State) (d : Diag) : State := { s with diaglog := s.diaglog ++ [d] }

/-- An operation's outcome from a state or a refusal. -/
def outcome : Except Refusal State → Host.Outcome State Fault Refusal
  | .ok s => .next s
  | .error r => .refused r

/-- Error-kind codes (30_encoding R101). -/
def ErrorKind.code : ErrorKind → Byte
  | .malformedFrame => 1
  | .sizeMismatch => 2
  | .hardwareFault => 3
  | .transportWriteFailure => 4
  | .transportTimeout => 5
  | .hardwareInitFailure => 6
  | .payloadTooLarge => 7

/-- The events a kind is logged by (60_exceptions R260, column "logged to DIAGLOG"). -/
def ErrorKind.logged : ErrorKind → Bool
  | .malformedFrame => true
  | .sizeMismatch => true
  | .hardwareFault => true
  | .transportWriteFailure => false
  | .transportTimeout => false
  | .hardwareInitFailure => false
  | .payloadTooLarge => false

/-! ## Counters (00_scope R11) -/

/-- `sat16_inc`: saturates at 65535 (10_state R27). -/
def sat16Inc (v : BitVec 16) : BitVec 16 := if v.toNat < lineIdxMax then v + 1 else v

/-- `add8` (10_state R33). -/
def add8 (a b : Byte) : Byte := a + b

/-- `add32` (10_state R34). -/
def add32 (a b : BitVec 32) : BitVec 32 := a + b

/-- LINE_DONE's counting: the line counter and the slot advance (42_capture_fsm R162). -/
def State.countLine (s : State) : State :=
  { s with lineIdx := sat16Inc s.lineIdx, lbSlot := !s.lbSlot }

/-- FRAME_DONE's reset of the line counter and the slot (R164). -/
def State.endFrame (s : State) : State := { s with lineIdx := 0, lbSlot := false }

/-- `SEQ <- add8(SEQ, 1)` (45_stream_controller R230). -/
def State.advanceSeq (s : State) : State := { s with seq := add8 s.seq 1 }

/-- `SEND_CNT <- add32(SEND_CNT, 1)` (R225). -/
def State.countSend (s : State) : State := { s with sendCnt := add32 s.sendCnt 1 }

/-- EB_LEN (10_state R24). -/
def State.setEbLen (s : State) (n : Nat) : State := { s with ebLen := n }

/-! ## Queues and logs (10_state R37) -/

/-- `tx_append` (00_scope R11). -/
def State.txAppend (s : State) (bs : List Byte) : State := { s with txlog := s.txlog ++ bs }

/-- HOST_CMD's push at the tail of CMDQ. -/
def State.pushCmd (s : State) (b : Byte) : State := { s with cmdq := s.cmdq ++ [b] }

/-- What CMDQ holds from now on (ML_CMD's pop). -/
def State.setCmdq (s : State) (q : List Byte) : State := { s with cmdq := q }

/-- The pending records from now on. -/
def State.setTrace (s : State) (t : List Byte) : State := { s with trace := t }

/-- One more free draw taken. -/
def State.drawOnce (s : State) : State := { s with draws := s.draws + 1 }

/-! ## The sequencer (45_stream_controller R220) -/

/-- `PHASE <- p`. -/
def State.goto (s : State) (p : Phase) : State := { s with phase := p }

/-- Phase codes (30_encoding R100). -/
def Phase.code : Phase → BitVec 3
  | .cmd => 0
  | .imgTake => 1
  | .imgBuild => 2
  | .imgTx => 3
  | .radPoll => 4
  | .radDrain => 5
  | .radBuild => 6
  | .radTx => 7

/-- The phase a code names; every code names one (10_state R35). -/
def Phase.ofCode (c : BitVec 3) : Phase :=
  match c.toNat with
  | 0 => .cmd
  | 1 => .imgTake
  | 2 => .imgBuild
  | 3 => .imgTx
  | 4 => .radPoll
  | 5 => .radDrain
  | 6 => .radBuild
  | _ => .radTx

/-! ## The handoff (41_buffer_pair R140 to R144) -/

/-- WRITE_HANDLE's value: the index of the write target (R140). -/
def writeHandle (s : State) : Bool := s.handoff.sel

/-- SWAP's effect: one indivisible write of both fields, and the hazard mark (R141). -/
def State.swapBuffers (s : State) : State :=
  { s with
    handoff := { sel := !s.handoff.sel, rdy := true }
    viewStale := if s.view = none then s.viewStale else true }

/-- TAKE_READY's effect when a frame is ready (R142). -/
def State.takeView (s : State) : State :=
  { s with
    handoff := { sel := s.handoff.sel, rdy := false }
    view := some (!s.handoff.sel)
    viewStale := false }

/-- VIEW_RELEASE's effect (R144). -/
def State.releaseView (s : State) : State := { s with view := none, viewStale := false }

/-- TAKE_READY: its result and the state after it (R142). -/
def takeReady (s : State) : Ret × State :=
  if s.handoff.rdy then (.ready (!s.handoff.sel), s.takeView) else (.notReady, s)

/-! ## Derived values -/

/-- The capture state machine's state between operations and inside FRAME_DONE (10_state R30). -/
inductive CState where
  | idle
  | accumulatingLines
  | frameComplete
  | frameMalformed
  deriving DecidableEq, Repr

/-- CSTATE between operations (R30). -/
def State.cstate (s : State) : CState := if s.lineIdx = 0 then .idle else .accumulatingLines

/-- EXPECTED_LINES (10_state R29). -/
def State.expectedLines (s : State) : Nat := s.par.raw.imgLines

/-- The state FRAME_DONE passes through (R30, 42_capture_fsm R160). -/
def State.frameVerdict (s : State) : CState :=
  if s.lineIdx.toNat = s.expectedLines then .frameComplete else .frameMalformed

/-- The output `lb_target` (42_capture_fsm R169). -/
def State.lbTarget (s : State) : Bool := s.lbSlot

/-- What an outside party sees (00_scope R12): TXLOG, DIAGLOG and `lb_target`. -/
structure Observation where
  txlog : List Byte
  diaglog : List Diag
  lbTarget : Bool
  deriving DecidableEq, Repr

/-- The observation of a state (R12). -/
def State.observe (s : State) : Observation :=
  { txlog := s.txlog, diaglog := s.diaglog, lbTarget := s.lbTarget }

end Sys2Proof.Machine
end

