-- ==== Sys2Proof/Machine/Flags.lean ====
section
/-! DEFINITION. The one-bit flags that a single operation sets or clears (10_state R41): AVAIL and
STREAMING. RDY and VIEW_STALE change only together with SEL and VIEW, in `swapBuffers`, `takeView`
and `releaseView` of Ops.lean. -/

namespace Sys2Proof.Machine

/-- AVAIL: set by RADAR_BURST, cleared by a drain (43_radar_adapter R180, R182). -/
def State.setAvail (s : State) (b : Bool) : State := { s with avail := b }

/-- CMD_START's effect: `STREAMING <- 1`, `SEND_CNT <- 0` (30_encoding R96). -/
def State.startStreaming (s : State) : State := { s with streaming := true, sendCnt := 0 }

/-- `STREAMING <- 0`: CMD_STOP's effect (R96), and a failed transmit's (45_stream_controller R225). -/
def State.stopStreaming (s : State) : State := { s with streaming := false }

end Sys2Proof.Machine
end

