-- ==== Sys2Proof/Machine/Operands.lean ====
section
/-! DEFINITION. The operand forms whose value or legality depends on the state: the situation a
record is decoded in, and the draws of R11 (00_scope), which are operands of the record that
consumes them (30_encoding R99, R104). -/

namespace Sys2Proof.Machine

/-- What the operands of the next record depend on (30_encoding R99). -/
def State.ctx (s : State) : Ctx :=
  { par := s.par, stale := s.viewStale, streaming := s.streaming }

/-- The bytes read through the view (41_buffer_pair R143): the buffer's own on a fresh view, the
draw on a stale one. -/
def viewBytes (s : State) (off n : Nat) (draw : Option (List Byte)) : Except Refusal (List Byte) :=
  match s.view with
  | none => .error .noView
  | some v =>
    match memRead s (.fb v) off n with
    | .error r => .error r
    | .ok bs =>
      match s.viewStale, draw with
      | false, none => .ok bs
      | true, some d => if d.length = n then .ok d else .error .drawMismatch
      | _, _ => .error .drawMismatch

/-- The bytes a transmit delivers: the whole envelope on `Ok`, else the drawn prefix of 0 to EB_LEN bytes
(45_stream_controller R225; 92's D18 has 0 to EB_LEN - 1: log entry 27). -/
def txBytesOf (s : State) (a : TxDraw) : Except Refusal (List Byte) :=
  match a.outcome with
  | .ok => memRead s .eb 0 s.ebLen
  | .writeFailure | .timeout =>
    if s.ebLen < a.delivered.toNat then .error .deliveredOutOfRange
    else memRead s .eb 0 a.delivered.toNat

/-- A radar answer delivers exactly RADAR_FRAME_BYTES bytes (43_radar_adapter R182). -/
def radarDataOf (s : State) (a : RadarDraw) : Except Refusal (List Byte) :=
  if a.data.length = s.par.raw.radarFrameBytes then .ok a.data else .error .drawMismatch

end Sys2Proof.Machine
end

