-- ==== Sys2Proof/Machine/BufferPair.lean ====
section
/-! DEFINITION. The Frame Buffer Pair (41_buffer_pair): WRITE_HANDLE, SWAP, TAKE_READY, VIEW_READ,
VIEW_RELEASE. -/

namespace Sys2Proof.Machine

/-- WRITE_HANDLE (R140): a pure read of SEL. -/
def execWriteHandle (s : State) : Host.Outcome State Fault Refusal :=
  .next (s.returns (.handle (writeHandle s)))

/-- SWAP (R141): never fails and never waits. -/
def execSwap (s : State) : Host.Outcome State Fault Refusal :=
  .next (s.swapBuffers.returns .none)

/-- TAKE_READY (R142). -/
def execTakeReady (s : State) : Host.Outcome State Fault Refusal :=
  .next ((takeReady s).2.returns (takeReady s).1)

/-- VIEW_READ (R143): no state is written. -/
def execViewRead (off n : U32) (draw : Option (List Byte)) (s : State) :
    Host.Outcome State Fault Refusal :=
  match viewBytes s off.toNat n.toNat draw with
  | .error r => .refused r
  | .ok bs => .next (s.returns (.bytes bs))

/-- VIEW_RELEASE (R144). -/
def execViewRelease (s : State) : Host.Outcome State Fault Refusal :=
  .next (s.releaseView.returns .none)

end Sys2Proof.Machine
end

