-- ==== Sys2Proof/Machine/Capture.lean ====
section
/-! DEFINITION. The Capture State Machine (42_capture_fsm): CAP_WRITE, LINE_DONE, FRAME_DONE. -/

namespace Sys2Proof.Machine

/-- CAP_WRITE (R161). -/
def execCapWrite (slot : Bool) (off : U32) (data : List Byte) (s : State) :
    Host.Outcome State Fault Refusal :=
  match memWrite s (.lb slot) off.toNat data with
  | .error r => .refused r
  | .ok s1 => .next (s1.returns .none)

/-- Where line `k` begins in the frame buffer: line-major, ascending, no padding (20_memory R63). -/
def lineOffset (s : State) : Nat := s.lineIdx.toNat * s.par.raw.lineBytes

/-- LINE_DONE's copy of the captured line into the write target (R162), suppressed for a line past
the expected count (R163). -/
def relocateLine (s : State) : Except Refusal State :=
  if s.lineIdx.toNat < s.expectedLines then
    match memRead s (.lb s.lbSlot) 0 s.par.raw.lineBytes with
    | .error r => .error r
    | .ok line => memWrite s (.fb (writeHandle s)) (lineOffset s) line
  else .ok s

/-- LINE_DONE (R162). -/
def execLineDone (s : State) : Host.Outcome State Fault Refusal :=
  match relocateLine s with
  | .error r => .refused r
  | .ok s1 => .next (s1.countLine.returns .none)

/-- The malformed-frame event: it carries the line count found (R165). -/
def malformed (s : State) : Diag := { kind := .malformedFrame, info := .count s.lineIdx.toNat }

/-- FRAME_DONE (R164): SWAP exactly once for a frame of the expected count, else one malformed-frame
indication; the counter and the slot are reset either way. -/
def execFrameDone (s : State) : Host.Outcome State Fault Refusal :=
  match s.frameVerdict with
  | .frameComplete => .next (s.swapBuffers.endFrame.returns .none)
  | _ => .next (((s.emit (malformed s)).endFrame).raises (malformed s))

end Sys2Proof.Machine
end

