-- ==== Sys2Proof/Machine/Checksum.lean ====
section
/-! DEFINITION. The Checksum Unit (40_checksum): CHECKSUM. -/

namespace Sys2Proof.Machine

/-- ROUND (R122): take the low bit, shift right logically, and if the bit was 1 xor CRC_POLY in. -/
def crcRound (p : Params) (v : Byte) : Byte :=
  if v.getLsbD 0 then (v >>> 1) ^^^ p.crcPoly else v >>> 1

/-- `n` rounds. -/
def crcRounds (p : Params) : Nat → Byte → Byte
  | 0, v => v
  | n + 1, v => crcRounds p n (crcRound p v)

/-- `U` of R125: eight rounds. -/
def crcByte (p : Params) (v : Byte) : Byte := crcRounds p 8 v

/-- The running value after the bytes, from a given start (R121). -/
def crcFrom (p : Params) : Byte → List Byte → Byte
  | crc, [] => crc
  | crc, b :: bs => crcFrom p (crcByte p (crc ^^^ b)) bs

/-- CHECKSUM's value (R121): the running value from CRC_SEED, with no final step (R123). -/
def checksum (p : Params) (bs : List Byte) : Byte := crcFrom p p.crcSeed bs

/-- CHECKSUM (R121): a pure function; no state is read or written (R120). -/
def execChecksum (bytes : List Byte) (s : State) : Host.Outcome State Fault Refusal :=
  .next (s.returns (.byte (checksum s.par.raw bytes)))

end Sys2Proof.Machine
end

