-- ==== Sys2Proof/Machine/Envelope.lean ====
section
/-! DEFINITION. The Envelope Framer (44_envelope_framer): FRAME, and the ENVELOPE layout as the
envelope held in EB. -/

namespace Sys2Proof.Machine

/-- The error of a payload above MAX_PAYLOAD: it records the length (R200; 60_exceptions R260, code 7). -/
def tooLarge (payload : List Byte) : Diag :=
  { kind := .payloadTooLarge, info := .length payload.length }

/-- Leave an envelope in EB and its length in EB_LEN (R200); bytes of EB past it keep their contents. -/
def putEnvelope (s : State) (seq cks : Byte) (payload : List Byte) : Except Refusal State :=
  if s.par.raw.maxPayload < payload.length then .error (.payloadTooLarge (tooLarge payload))
  else
    match memWrite s .eb 0 (envelopeBytes s.par.raw seq cks payload) with
    | .error r => .error r
    | .ok s1 => .ok (s1.setEbLen (payload.length + 8))

/-- FRAME's value: the envelope with the payload's checksum (R200, R201). -/
def frameBytes (p : Params) (payload : List Byte) (seq : Byte) : List Byte :=
  envelopeBytes p seq (checksum p payload) payload

/-- FRAME's effect (R200). SEQ is not written (R201). -/
def buildFrame (s : State) (payload : List Byte) (seq : Byte) : Except Refusal State :=
  putEnvelope s seq (checksum s.par.raw payload) payload

/-- FRAME (R200). -/
def execFrame (seq : Byte) (payload : List Byte) (s : State) : Host.Outcome State Fault Refusal :=
  match buildFrame s payload seq with
  | .error r => .refused r
  | .ok s1 => .next (s1.returns (.bytes (frameBytes s.par.raw payload seq)))

/-- ENVELOPE (R91; log entry 9): this envelope, whatever its checksum byte, is the one EB holds. -/
def execEnvelope (seq cks : Byte) (payload : List Byte) (s : State) :
    Host.Outcome State Fault Refusal :=
  match putEnvelope s seq cks payload with
  | .error r => .refused r
  | .ok s1 => .next (s1.returns .none)

end Sys2Proof.Machine
end

