-- ==== Sys2Proof/Machine/Platform.lean ====
section
/-! DEFINITION. The platform (70_reset_and_hazards): bring-up, RESET, and the row of the opcode table
that is "not an instruction". -/

namespace Sys2Proof.Machine

/-- Which collaborators are up before DBFC runs (R302 (a) to (d)). -/
structure Collaborators where
  imageSensor : Bool
  captureMechanism : Bool
  radarSensor : Bool
  transport : Bool
  deriving DecidableEq, Repr

/-- Every collaborator has done its part (R302). -/
def Collaborators.up (c : Collaborators) : Bool :=
  c.imageSensor && c.captureMechanism && c.radarSensor && c.transport

/-- Bring-up (R302, R303): the collaborators first, then the parameter record (00_scope R8), then
RESET. -/
def State.boot (c : Collaborators) (p : Params) : Host.Outcome State Fault Refusal :=
  if c.up then
    if h : p.Valid then .next (State.resetOf ⟨p, h⟩) else .refused .configFatal
  else .fault .hardwareInitFailure

/-- RESET (R300): every element takes its value of 10_state R39, and the six arrays a new draw. The
parameters, the records still pending and the count of free draws are not DBFC's state and stay
(log entry 16). -/
def execReset (s : State) : Host.Outcome State Fault Refusal :=
  .next
    { State.resetOf s.par with trace := s.trace, powerUps := s.powerUps + 1, draws := s.draws }

/-- HANDOFF: "not an instruction: the layout of the one shared control word" (opcode table). Nothing
performs it, and nothing but SWAP and TAKE_READY writes the word (10_state R26). -/
def execHandoff (_sel _rdy : Bool) (_s : State) : Host.Outcome State Fault Refusal :=
  .refused .notAnOperation

end Sys2Proof.Machine
end

