-- ==== Sys2Proof/Machine/Radar.lean ====
section
/-! DEFINITION. The Radar Acquisition Adapter (43_radar_adapter): RADAR_BURST, RADAR_POLL,
RADAR_DRAIN. -/

namespace Sys2Proof.Machine

/-- RADAR_BURST (R180): the latch does not count. -/
def execRadarBurst (s : State) : Host.Outcome State Fault Refusal :=
  .next ((s.setAvail true).returns .none)

/-- RADAR_POLL (R181): a pure read of the latch. -/
def execRadarPoll (s : State) : Host.Outcome State Fault Refusal :=
  .next (s.returns (.bit s.avail))

/-- A drain (R182): AVAIL is cleared first; a count mismatch leaves RB as it was; else RB takes the
delivered bytes, and HardwareFault is raised exactly for `fault` = 1. -/
def drainRadar (s : State) (expected : Nat) (a : RadarDraw) : Except Refusal (Ret × State) :=
  match radarDataOf s a with
  | .error r => .error r
  | .ok data =>
    if expected = a.spf.toNat then
      match memWrite (s.setAvail false) .rb 0 data with
      | .error r => .error r
      | .ok s1 =>
        if a.fault = 1 then .ok (.raised { kind := .hardwareFault, info := .none }, s1)
        else .ok (.ok, s1)
    else
      .ok (.raised { kind := .sizeMismatch, info := .sizes expected a.spf.toNat }, s.setAvail false)

/-- RADAR_DRAIN (R182): the bare drain returns or raises; it does not log. -/
def execRadarDrain (expected : U32) (answer : RadarDraw) (s : State) :
    Host.Outcome State Fault Refusal :=
  match drainRadar s expected.toNat answer with
  | .error r => .refused r
  | .ok (r, s1) => .next (s1.returns r)

end Sys2Proof.Machine
end

