-- ==== Sys2Proof/Machine/Stream.lean ====
section
/-! DEFINITION. The stream controller (45_stream_controller): TRANSMIT, HOST_CMD, the two commands
and the eight ML operations. -/

namespace Sys2Proof.Machine

/-- An ML operation is refused unless PHASE names it (30_encoding R102). -/
def inPhase (p : Phase) (s : State) (k : Except Refusal State) : Host.Outcome State Fault Refusal :=
  if s.phase = p then outcome k else .refused .wrongPhase

/-! ## Step 1: the command -/

/-- HOST_CMD (R235). -/
def execHostCmd (byte : Byte) (s : State) : Host.Outcome State Fault Refusal :=
  .next ((s.pushCmd byte).returns .none)

/-- CMD_START's effect (30_encoding R96, R221). -/
def execCmdStart (s : State) : Host.Outcome State Fault Refusal :=
  .next (s.startStreaming.returns .none)

/-- CMD_STOP's effect (30_encoding R96, R221), the same for each of its 255 bytes. -/
def execCmdStop (_cmd : Byte) (s : State) : Host.Outcome State Fault Refusal :=
  .next (s.stopStreaming.returns .none)

/-- The effect of a command byte: CMD_START is tested first (R97). -/
def runCommand (s : State) (b : Byte) : State :=
  if b = s.par.raw.cmdStart then s.startStreaming else s.stopStreaming

/-- ML_CMD's check for one command byte: at most one is popped (R221). -/
def checkCommand (s : State) : State :=
  match s.cmdq with
  | [] => s
  | b :: rest => runCommand (s.setCmdq rest) b

/-- ML_CMD (R221). -/
def execMlCmd (s : State) : Host.Outcome State Fault Refusal :=
  inPhase .cmd s (.ok (((checkCommand s).goto .imgTake).returns .none))

/-! ## TRANSMIT -/

/-- A transmit (R225): on `Ok` the whole envelope and SEND_CNT; on a failure the drawn prefix, and
STREAMING is cleared. Nothing is logged to DIAGLOG. -/
def sendEnvelope (s : State) (a : TxDraw) : Except Refusal (Ret × State) :=
  match txBytesOf s a with
  | .error r => .error r
  | .ok bs =>
    match a.outcome with
    | .ok => .ok (.ok, (s.txAppend bs).countSend)
    | .writeFailure =>
      .ok (.raised { kind := .transportWriteFailure, info := .none }, (s.txAppend bs).stopStreaming)
    | .timeout =>
      .ok (.raised { kind := .transportTimeout, info := .none }, (s.txAppend bs).stopStreaming)

/-- TRANSMIT (R225). -/
def execTransmit (answer : TxDraw) (s : State) : Host.Outcome State Fault Refusal :=
  match sendEnvelope s answer with
  | .error r => .refused r
  | .ok (r, s1) => .next (s1.returns r)

/-! ## Step 2: the image stream -/

/-- ML_IMG_TAKE (R222): polled whether or not STREAMING = 1. -/
def execMlImgTake (s : State) : Host.Outcome State Fault Refusal :=
  inPhase .imgTake s
    (.ok (((takeReady s).2.goto (if s.handoff.rdy then .imgBuild else .radPoll)).returns .none))

/-- The envelope of the taken frame (R223): on a fresh view the frame's bytes and their checksum; on
a stale one the drawn payload and the drawn checksum byte under an exact header. -/
def buildImage (s : State) (draw : Option StaleDraw) : Except Refusal State :=
  match s.viewStale, draw with
  | false, none =>
    match viewBytes s 0 s.par.raw.imgFrameBytes none with
    | .error r => .error r
    | .ok payload => buildFrame s payload s.seq
  | true, some d =>
    if d.payload.length = s.par.raw.imgFrameBytes then putEnvelope s s.seq d.checksum d.payload
    else .error .drawMismatch
  | _, _ => .error .drawMismatch

/-- ML_IMG_BUILD (R223): built whether or not STREAMING = 1; SEQ advances (R230) and the view is
released. -/
def execMlImgBuild (draw : Option StaleDraw) (s : State) : Host.Outcome State Fault Refusal :=
  inPhase .imgBuild s
    (match buildImage s draw with
    | .error r => .error r
    | .ok s1 => .ok ((s1.advanceSeq.releaseView.goto .imgTx).returns .none))

/-- ML_IMG_TX (R224): with STREAMING = 0 the envelope is abandoned and nothing is sent. That `ret` is
the transmit's own result, its `ok` included, is a DESIGN CHOICE (log entry 7). -/
def execMlImgTx (answer : Option TxDraw) (s : State) : Host.Outcome State Fault Refusal :=
  inPhase .imgTx s
    (match s.streaming, answer with
    | true, some a =>
      match sendEnvelope s a with
      | .error r => .error r
      | .ok (r, s1) => .ok ((s1.goto .radPoll).returns r)
    | false, none => .ok ((s.goto .radPoll).returns .none)
    | _, _ => .error .drawMismatch)

/-! ## Step 3: the radar stream -/

/-- ML_RAD_POLL (R226): polled whether or not STREAMING = 1. -/
def execMlRadPoll (s : State) : Host.Outcome State Fault Refusal :=
  inPhase .radPoll s (.ok ((s.goto (if s.avail then .radDrain else .cmd)).returns .none))

/-- What follows a drain in the main loop: "log and continue" (R227). -/
def afterDrain (r : Ret) (s : State) : State :=
  match r with
  | .raised d => ((s.emit d).goto .cmd).raises d
  | _ => (s.goto .radBuild).returns .none

/-- ML_RAD_DRAIN (R227): the expected count is always RADAR_SAMPLES. -/
def execMlRadDrain (answer : RadarDraw) (s : State) : Host.Outcome State Fault Refusal :=
  inPhase .radDrain s
    (match drainRadar s s.par.raw.radarSamples answer with
    | .error r => .error r
    | .ok (r, s1) => .ok (afterDrain r s1))

/-- ML_RAD_BUILD (R228): built only when STREAMING = 1. -/
def execMlRadBuild (s : State) : Host.Outcome State Fault Refusal :=
  inPhase .radBuild s
    (if s.streaming then
      match memRead s .rb 0 s.par.raw.radarFrameBytes with
      | .error r => .error r
      | .ok payload =>
        match buildFrame s payload s.seq with
        | .error r => .error r
        | .ok s1 => .ok ((s1.advanceSeq.goto .radTx).returns .none)
    else .ok ((s.goto .cmd).returns .none))

/-- ML_RAD_TX (R229): the record always has the answer; it is used when STREAMING = 1. That `ret` is the
transmit's own result, its `ok` included, is a DESIGN CHOICE (log entry 7). -/
def execMlRadTx (answer : TxDraw) (s : State) : Host.Outcome State Fault Refusal :=
  inPhase .radTx s
    (if s.streaming then
      match sendEnvelope s answer with
      | .error r => .error r
      | .ok (r, s1) => .ok ((s1.goto .cmd).returns r)
    else .ok ((s.goto .cmd).returns .none))

end Sys2Proof.Machine
end

