-- ==== Sys2Proof/Machine/Dispatch.lean ====
section
/-! DEFINITION. The meaning of every operation: one arm per row of spec/opcode_table.json. -/

namespace Sys2Proof.Machine

def exec (i : Instr) (s : State) : Host.Outcome State Fault Refusal :=
  match i with
  | .lineDone => Sys2Proof.Machine.execLineDone s
  | .frameDone => Sys2Proof.Machine.execFrameDone s
  | .writeHandle => Sys2Proof.Machine.execWriteHandle s
  | .swap => Sys2Proof.Machine.execSwap s
  | .takeReady => Sys2Proof.Machine.execTakeReady s
  | .viewRead off n draw => Sys2Proof.Machine.execViewRead off n draw s
  | .viewRelease => Sys2Proof.Machine.execViewRelease s
  | .checksum bytes => Sys2Proof.Machine.execChecksum bytes s
  | .frame seq payload => Sys2Proof.Machine.execFrame seq payload s
  | .radarPoll => Sys2Proof.Machine.execRadarPoll s
  | .radarDrain expected answer => Sys2Proof.Machine.execRadarDrain expected answer s
  | .transmit answer => Sys2Proof.Machine.execTransmit answer s
  | .mlCmd => Sys2Proof.Machine.execMlCmd s
  | .mlImgTake => Sys2Proof.Machine.execMlImgTake s
  | .mlImgBuild draw => Sys2Proof.Machine.execMlImgBuild draw s
  | .mlImgTx answer => Sys2Proof.Machine.execMlImgTx answer s
  | .mlRadPoll => Sys2Proof.Machine.execMlRadPoll s
  | .mlRadDrain answer => Sys2Proof.Machine.execMlRadDrain answer s
  | .mlRadBuild => Sys2Proof.Machine.execMlRadBuild s
  | .mlRadTx answer => Sys2Proof.Machine.execMlRadTx answer s
  | .capWrite slot off data => Sys2Proof.Machine.execCapWrite slot off data s
  | .radarBurst => Sys2Proof.Machine.execRadarBurst s
  | .hostCmd byte => Sys2Proof.Machine.execHostCmd byte s
  | .reset => Sys2Proof.Machine.execReset s
  | .cmdStart => Sys2Proof.Machine.execCmdStart s
  | .cmdStop cmd => Sys2Proof.Machine.execCmdStop cmd s
  | .envelope seq cks payload => Sys2Proof.Machine.execEnvelope seq cks payload s
  | .handoff sel rdy => Sys2Proof.Machine.execHandoff sel rdy s

end Sys2Proof.Machine
end

