-- ==== Sys2Proof/Machine/Fetch.lean ====
section
/-! DEFINITION. Where the next operation comes from: the next record of the trace (30_encoding R104),
or, when none is pending, the CONSUMER's own move (45_stream_controller R220); and how a row of the
opcode table is placed there. -/

namespace Sys2Proof.Machine

/-- The refusal a decoding error ends in. -/
def refusalOf : DecodeError → Refusal
  | .truncated => .truncatedRecord
  | .unknownOpsel code => .unknownOpsel code
  | .badOperand => .badOperand
  | .badLayout => .badOperand

/-- The free bytes `f 0, f 1, …`, `n` of them. -/
def freeBytes (f : Nat → Byte) (n : Nat) : List Byte := (List.range n).map f

/-- TRANSPORT's free answer: `delivered` ranges over 0 … EB_LEN (R225), as far as a `u32` reaches. -/
def freeTx (s : State) : TxDraw :=
  { outcome := Config.txOutcome s.draws
    delivered :=
      BitVec.ofNat 32 (Config.txDelivered s.draws % (min s.ebLen 4294967295 + 1)) }

/-- RADAR's free answer (R182). -/
def freeRadar (s : State) : RadarDraw :=
  { spf := Config.radarSpf s.draws
    fault := bitCode (Config.radarFault s.draws)
    data := freeBytes (Config.radarByte s.draws) s.par.raw.radarFrameBytes }

/-- What a stale view gives, free (R223). -/
def freeStale (s : State) : StaleDraw :=
  { checksum := Config.staleChecksum s.draws
    payload := freeBytes (Config.staleByte s.draws) s.par.raw.imgFrameBytes }

/-- The CONSUMER's only possible operation, the one its PHASE names (R220), with free draws where it
takes any: the pseudo-operation STEP of 30_encoding R104. -/
def consumerOp (s : State) : Instr :=
  match s.phase with
  | .cmd => .mlCmd
  | .imgTake => .mlImgTake
  | .imgBuild => .mlImgBuild (if s.viewStale then some (freeStale s) else none)
  | .imgTx => .mlImgTx (if s.streaming then some (freeTx s) else none)
  | .radPoll => .mlRadPoll
  | .radDrain => .mlRadDrain (freeRadar s)
  | .radBuild => .mlRadBuild
  | .radTx => .mlRadTx (freeTx s)

/-- The next operation and the state it is performed in: the record is taken off the trace, or one
free draw is counted. -/
def fetch (s : State) : Except Refusal (Instr × State) :=
  match s.trace with
  | [] => .ok (consumerOp s, s.drawOnce)
  | b :: bs =>
    match decodeRecord s.ctx (b :: bs) with
    | .ok (i, rest) => .ok (i, s.setTrace rest)
    | .error e => .error (refusalOf e)

/-- The phase an ML code selects, for any other code the present one (R99: `0x10 + PHASE`). -/
def selectPhase (s : State) (code : Byte) : State :=
  match mlPhaseOf code with
  | some c => s.goto (Phase.ofCode c)
  | none => s

/-- An 8-bit row placed to be the next operation (log entry 19): a trace record goes to the head of
the trace with zero operands, and an ML record's phase is selected; a command byte goes to the head
of CMDQ, with the ML_CMD that pops it. -/
def placeByte (s : State) (b : Byte) : State :=
  match decodeRecord s.ctx (b :: operandZeros s.ctx) with
  | .ok (i, _) => (selectPhase s b).setTrace (encode s.ctx i ++ s.trace)
  | .error (.unknownOpsel _) =>
    ((s.goto .cmd).setCmdq (b :: s.cmdq)).setTrace (encode s.ctx .mlCmd ++ s.trace)
  | .error _ => s.setTrace (b :: operandZeros s.ctx ++ s.trace)

/-- The bytes of a wider or narrower row at the head of the trace behind the unassigned code 0x00,
which R102 refuses: the envelope's header and the control word are no records (log entry 19). -/
def placeBytes (s : State) (nbits w : Nat) : State :=
  s.setTrace (0x00 :: (bytesOfNat ((nbits + 7) / 8) w).reverse ++ s.trace)

/-- A row of the opcode table placed to be the next operation. -/
def placeWord (s : State) (nbits w : Nat) : State :=
  if nbits = 8 then placeByte s (BitVec.ofNat 8 w) else placeBytes s nbits w

end Sys2Proof.Machine
end

