-- ==== Sys2Proof/Machine/Step.lean ====
section
/-! DEFINITION. One step of DBFC: one operation, one atomic transition (00_scope R9). -/

namespace Sys2Proof.Machine

/-- One step: the next record of the trace, or the CONSUMER's own move when none is pending (R220). -/
def step (s : State) : Host.Outcome State Fault Refusal :=
  match fetch s with
  | .error r => .refused r
  | .ok (i, s1) => exec i s1

/-- The state with a row of the opcode table placed where `step` takes its next operation. -/
def State.withFetchWord (s : State) (nbits w : Nat) : State := placeWord s nbits w

end Sys2Proof.Machine
end

