-- ==== Sys2Proof/Machine/Trace.lean ====
section
/-! DEFINITION. Trace notation (30_encoding R104): runs of operations, the pseudo-operations and
their expansions, the composite ITERATE (45_stream_controller R236), the text form. -/

namespace Sys2Proof.Machine

/-- A run of operations, stopping at the first that has no next state. -/
def execAll : List Instr → State → Host.Outcome State Fault Refusal
  | [], s => .next s
  | i :: is, s =>
    match exec i s with
    | .next s1 => execAll is s1
    | .fault r => .fault r
    | .refused r => .refused r

/-- `k` steps, stopping at the first that has no next state. -/
def runSteps : Nat → State → Host.Outcome State Fault Refusal
  | 0, s => .next s
  | k + 1, s =>
    match step s with
    | .next s1 => runSteps k s1
    | .fault r => .fault r
    | .refused r => .refused r

/-- The binary form of a run from a state: each record in the situation it is performed in. -/
def traceOf : List Instr → State → List Byte
  | [], _ => []
  | i :: is, s =>
    encode s.ctx i ++
      (match exec i s with
      | .next s1 => traceOf is s1
      | _ => [])

/-! ## Pseudo-operations -/

/-- `LINE data` with `LB_SLOT` at that point. -/
def lineOps (slot : Bool) (data : List Byte) : List Instr := [.capWrite slot 0 data, .lineDone]

/-- `count` LINEs of `width` bytes each, the slots alternating. -/
def linesOps : Nat → Bool → Nat → List Byte → List Instr
  | 0, _, _, _ => []
  | count + 1, slot, width, data =>
    lineOps slot (data.take width) ++ linesOps count (!slot) width (data.drop width)

/-- `GOODFRAME data`. -/
def goodFrameOps (s : State) (data : List Byte) : List Instr :=
  linesOps s.expectedLines s.lbSlot s.par.raw.lineBytes data ++ [.frameDone]

/-- `START`. -/
def startOps (s : State) : List Instr := [.hostCmd s.par.raw.cmdStart]

/-- `STOP b`. -/
def stopOps (b : Byte) : List Instr := [.hostCmd b]

/-- A draw listed with STEP or ITERATE. -/
inductive Draw where
  | stale (d : StaleDraw)
  | tx (a : TxDraw)
  | radar (a : RadarDraw)
  deriving DecidableEq, Repr

/-- `STEP [draw]`: the ML operation PHASE names, with the next listed draw if it takes one, and the draws
left over. A draw that is missing or of another kind is no record (log entry 26). -/
def stepOp (s : State) (ds : List Draw) : Option (Instr × List Draw) :=
  match s.phase with
  | .cmd => some (.mlCmd, ds)
  | .imgTake => some (.mlImgTake, ds)
  | .imgBuild =>
    if s.viewStale then
      match ds with
      | .stale d :: rest => some (.mlImgBuild (some d), rest)
      | _ => none
    else some (.mlImgBuild none, ds)
  | .imgTx =>
    if s.streaming then
      match ds with
      | .tx a :: rest => some (.mlImgTx (some a), rest)
      | _ => none
    else some (.mlImgTx none, ds)
  | .radPoll => some (.mlRadPoll, ds)
  | .radDrain =>
    match ds with
    | .radar a :: rest => some (.mlRadDrain a, rest)
    | _ => none
  | .radBuild => some (.mlRadBuild, ds)
  | .radTx =>
    match ds with
    | .tx a :: rest => some (.mlRadTx a, rest)
    | _ => none

/-- At most `fuel` STEPs, until PHASE is PH_CMD again. A missing draw is no record; draws that no step
consumes are ignored (DESIGN CHOICE, log entry 26: R104 and R236 speak of the consumed ones only). -/
def stepsToCmd : Nat → List Draw → State → Host.Outcome State Fault Refusal
  | 0, _, s => .next s
  | fuel + 1, ds, s =>
    match stepOp s ds with
    | none => .refused .drawMismatch
    | some (i, rest) =>
      match exec i s with
      | .next s1 => if s1.phase = .cmd then .next s1 else stepsToCmd fuel rest s1
      | .fault r => .fault r
      | .refused r => .refused r

/-- `ITERATE [draws]` (R236): one whole iteration, at most eight operations (R220). Draws listed beyond
those its steps consume are ignored (DESIGN CHOICE, log entry 26). -/
def iterate (ds : List Draw) (s : State) : Host.Outcome State Fault Refusal := stepsToCmd 8 ds s

/-! ## Text form -/

/-- One hexadecimal digit. -/
def hexDigit (n : Nat) : Char :=
  if n < 10 then Char.ofNat (48 + n) else Char.ofNat (55 + n)

/-- A byte as two hexadecimal digits (00_scope R11). -/
def hexByte (b : Byte) : String := String.ofList [hexDigit (b.toNat / 16), hexDigit (b.toNat % 16)]

/-- Bytes with a space before each. -/
def hexBytes : List Byte → String
  | [] => ""
  | b :: bs => " " ++ hexByte b ++ hexBytes bs

/-- A number with a space before it. -/
def natText (n : Nat) : String := " " ++ toString n

/-- A transmit answer's text. -/
def txText (a : TxDraw) : String := natText (outcomeCode a.outcome).toNat ++ natText a.delivered.toNat

/-- A radar answer's text. -/
def radarText (a : RadarDraw) : String :=
  natText a.spf.toNat ++ natText a.fault.toNat ++ hexBytes a.data

/-- The text form of a record: its mnemonic of R99 and its operands in R99's order (log entry 21). -/
def instrText : Instr → String
  | .lineDone => "LINE_DONE"
  | .frameDone => "FRAME_DONE"
  | .writeHandle => "WRITE_HANDLE"
  | .swap => "SWAP"
  | .takeReady => "TAKE_READY"
  | .viewRead off n draw =>
    "VIEW_READ" ++ natText off.toNat ++ natText n.toNat ++ hexBytes (draw.getD [])
  | .viewRelease => "VIEW_RELEASE"
  | .checksum bytes => "CHECKSUM" ++ hexBytes bytes
  | .frame seq payload => "FRAME " ++ hexByte seq ++ natText payload.length ++ hexBytes payload
  | .radarPoll => "RADAR_POLL"
  | .radarDrain expected answer => "RADAR_DRAIN" ++ natText expected.toNat ++ radarText answer
  | .transmit answer => "TRANSMIT" ++ txText answer
  | .mlCmd => "ML_CMD"
  | .mlImgTake => "ML_IMG_TAKE"
  | .mlImgBuild none => "ML_IMG_BUILD"
  | .mlImgBuild (some d) => "ML_IMG_BUILD " ++ hexByte d.checksum ++ hexBytes d.payload
  | .mlImgTx none => "ML_IMG_TX"
  | .mlImgTx (some answer) => "ML_IMG_TX" ++ txText answer
  | .mlRadPoll => "ML_RAD_POLL"
  | .mlRadDrain answer => "ML_RAD_DRAIN" ++ radarText answer
  | .mlRadBuild => "ML_RAD_BUILD"
  | .mlRadTx answer => "ML_RAD_TX" ++ txText answer
  | .capWrite slot off data =>
    "CAP_WRITE" ++ natText (bitCode slot).toNat ++ natText off.toNat ++ natText data.length ++
      hexBytes data
  | .radarBurst => "RADAR_BURST"
  | .hostCmd byte => "HOST_CMD " ++ hexByte byte
  | .reset => "RESET"
  | .cmdStart => "CMD_START"
  | .cmdStop cmd => "CMD_STOP " ++ hexByte cmd
  | .envelope seq cks payload =>
    "ENVELOPE " ++ hexByte seq ++ natText payload.length ++ " " ++ hexByte cks ++ hexBytes payload
  | .handoff sel rdy => "HANDOFF" ++ natText (bitCode sel).toNat ++ natText (bitCode rdy).toNat

end Sys2Proof.Machine
end

