-- ==== Sys2Proof/Safety.lean ====
section
/-! DEFINITION. The terms claims are made in: the invariants of 10_state R26 and the storage, the
agents' own moves and what each agent may write (R38), and the shape of TXLOG (45_stream_controller
R232). -/

namespace Sys2Proof.Machine

/-- What every operation keeps: storage in canonical form and inside its sizes, EB_LEN in its range
(10_state R24), R26(iv), and the hazard mark only on a held view (R36). -/
structure State.Inv (s : State) : Prop where
  store : ∀ sp, Memory.wf (s.sizeOf sp) (s.store.get sp)
  ebLen : s.ebLen = 0 ∨ (8 ≤ s.ebLen ∧ s.ebLen ≤ s.par.raw.maxPayload + 8)
  view : ∀ v, s.view = some v → s.viewStale = false → v = !s.handoff.sel
  stale : s.viewStale = true → s.view ≠ none

/-- The envelope EB holds, if one has been built since reset (R24, R91). -/
def State.HoldsEnvelope (s : State) : Prop :=
  s.ebLen = 0 ∨ ∃ (seq cks : Byte) (payload : List Byte),
    payload.length ≤ s.par.raw.maxPayload ∧ s.ebLen = payload.length + 8 ∧
    s.readBytes .eb 0 s.ebLen = envelopeBytes s.par.raw seq cks payload

/-- A concatenation of prefixes of envelopes, whole ones among them (R232, R225). -/
inductive TxFramed (p : Params) : List Byte → Prop where
  | empty : TxFramed p []
  | send (log : List Byte) (seq cks : Byte) (payload : List Byte) (n : Nat)
      (framed : TxFramed p log) (fits : payload.length ≤ p.maxPayload) :
      TxFramed p (log ++ (envelopeBytes p seq cks payload).take n)

/-- The operations the agents of 00_scope R10 perform of themselves; the other rows are performed
only through these, or by a test bench. -/
def isMove : Instr → Bool
  | .lineDone => true
  | .frameDone => true
  | .writeHandle => false
  | .swap => false
  | .takeReady => false
  | .viewRead _ _ _ => false
  | .viewRelease => false
  | .checksum _ => false
  | .frame _ _ => false
  | .radarPoll => false
  | .radarDrain _ _ => false
  | .transmit _ => false
  | .mlCmd => true
  | .mlImgTake => true
  | .mlImgBuild _ => true
  | .mlImgTx _ => true
  | .mlRadPoll => true
  | .mlRadDrain _ => true
  | .mlRadBuild => true
  | .mlRadTx _ => true
  | .capWrite _ _ _ => true
  | .radarBurst => true
  | .hostCmd _ => true
  | .reset => true
  | .cmdStart => false
  | .cmdStop _ => false
  | .envelope _ _ _ => false
  | .handoff _ _ => false

/-- The elements of the state, one name each (10_state R20, R38); HANDOFF's two fields apart. -/
inductive Elem where
  | par
  | space (sp : Space)
  | ebLen
  | sel
  | rdy
  | lineIdx
  | lbSlot
  | avail
  | streaming
  | seq
  | sendCnt
  | phase
  | view
  | viewStale
  | cmdq
  | txlog
  | diaglog
  | ret
  | trace
  | powerUps
  | draws
  deriving DecidableEq, Repr

/-- Two states agree on an element; on a storage space, every offset reads the same byte. -/
def Elem.Agrees (s t : State) : Elem → Prop
  | .par => t.par = s.par
  | .space sp => ∀ a, t.byteAt sp a = s.byteAt sp a
  | .ebLen => t.ebLen = s.ebLen
  | .sel => t.handoff.sel = s.handoff.sel
  | .rdy => t.handoff.rdy = s.handoff.rdy
  | .lineIdx => t.lineIdx = s.lineIdx
  | .lbSlot => t.lbSlot = s.lbSlot
  | .avail => t.avail = s.avail
  | .streaming => t.streaming = s.streaming
  | .seq => t.seq = s.seq
  | .sendCnt => t.sendCnt = s.sendCnt
  | .phase => t.phase = s.phase
  | .view => t.view = s.view
  | .viewStale => t.viewStale = s.viewStale
  | .cmdq => t.cmdq = s.cmdq
  | .txlog => t.txlog = s.txlog
  | .diaglog => t.diaglog = s.diaglog
  | .ret => t.ret = s.ret
  | .trace => t.trace = s.trace
  | .powerUps => t.powerUps = s.powerUps
  | .draws => t.draws = s.draws

/-- From `s` to `t` nothing changes but the elements listed: an operation's frame. -/
def Frame (s t : State) (written : List Elem) : Prop := ∀ e, e ∉ written → e.Agrees s t

/-- In a space, no offset outside `[a, a + n)` changes. -/
def FrameBytes (s t : State) (sp : Space) (a n : Nat) : Prop :=
  ∀ b, b < a ∨ a + n ≤ b → t.byteAt sp b = s.byteAt sp b

/-- What each agent may write (10_state R38; 60_exceptions R276), and `ret`, the model's own. The
PRODUCER writes no frame buffer but the write target. R38 has no column for the platform: its list is
what RESET writes (log entry 16). -/
def agentWrites (s : State) : Agent → List Elem
  | .producer =>
    [.space (.fb s.handoff.sel), .sel, .rdy, .lineIdx, .lbSlot, .viewStale, .diaglog, .ret]
  | .consumer =>
    [.space .rb, .space .eb, .ebLen, .rdy, .avail, .streaming, .seq, .sendCnt, .phase, .view,
      .viewStale, .cmdq, .txlog, .diaglog, .ret]
  | .capture => [.space (.lb false), .space (.lb true), .ret]
  | .radar => [.avail, .ret]
  | .host => [.cmdq, .ret]
  | .platform =>
    [.space (.fb false), .space (.fb true), .space (.lb false), .space (.lb true), .space .rb,
      .space .eb, .ebLen, .sel, .rdy, .lineIdx, .lbSlot, .avail, .streaming, .seq, .sendCnt, .phase,
      .view, .viewStale, .cmdq, .txlog, .diaglog, .ret, .powerUps]

/-- TRANSPORT's answer is one R225 allows: `delivered` is used, and bounded by EB_LEN, on a failure. -/
def TxAllowed (s : State) (a : TxDraw) : Prop :=
  a.outcome = .ok ∨ a.delivered.toNat ≤ s.ebLen

/-- What a transmit leaves in TXLOG, SEND_CNT, STREAMING and as its result (45_stream_controller
R225). -/
def TransmitEffect (s t : State) (a : TxDraw) : Prop :=
  match a.outcome with
  | .ok =>
    t.txlog = s.txlog ++ s.readBytes .eb 0 s.ebLen ∧ t.sendCnt = s.sendCnt + 1 ∧
    t.streaming = s.streaming ∧ t.ret = .ok
  | .writeFailure =>
    t.txlog = s.txlog ++ s.readBytes .eb 0 a.delivered.toNat ∧ t.sendCnt = s.sendCnt ∧
    t.streaming = false ∧ t.ret = .raised { kind := .transportWriteFailure, info := .none }
  | .timeout =>
    t.txlog = s.txlog ++ s.readBytes .eb 0 a.delivered.toNat ∧ t.sendCnt = s.sendCnt ∧
    t.streaming = false ∧ t.ret = .raised { kind := .transportTimeout, info := .none }

/-- EB holds these bytes from offset 0, EB_LEN is their number, and the rest of EB is as it was
(44_envelope_framer R200). -/
def HoldsInEb (s t : State) (e : List Byte) : Prop :=
  t.readBytes .eb 0 e.length = e ∧ t.ebLen = e.length ∧ FrameBytes s t .eb 0 e.length

/-- The operations that perform SWAP in a state (42_capture_fsm R168): SWAP itself, and a FRAME_DONE
that found the expected count. -/
def swapsIn (s : State) : Instr → Bool
  | .swap => true
  | .frameDone => s.frameVerdict == .frameComplete
  | _ => false

/-- No operation of the run performs SWAP. -/
def NoSwap : List Instr → State → Prop
  | [], _ => True
  | i :: is, s => swapsIn s i = false ∧ ∀ s1, exec i s = .next s1 → NoSwap is s1

/-- An ML_CMD that finds a start command at the head of CMDQ (45_stream_controller R221). -/
def popsStart (s : State) : Instr → Bool
  | .mlCmd => s.cmdq.head? == some s.par.raw.cmdStart
  | _ => false

/-- A run of the agents' own moves in which no ML_CMD pops a start command (45_stream_controller R233,
R234). -/
def NoStartPopped : List Instr → State → Prop
  | [], _ => True
  | i :: is, s =>
    isMove i = true ∧ popsStart s i = false ∧ ∀ s1, exec i s = .next s1 → NoStartPopped is s1

/-- The operations that leave a ready frame waiting: all but the two that take it, and RESET
(41_buffer_pair R142). -/
def leavesReady : Instr → Bool
  | .takeReady => false
  | .mlImgTake => false
  | .reset => false
  | _ => true

/-- The operations that leave a held view held: all but the two that release it, and RESET
(41_buffer_pair R144, 45_stream_controller R223). -/
def leavesView : Instr → Bool
  | .viewRelease => false
  | .mlImgBuild _ => false
  | .reset => false
  | _ => true

/-- The operations that build an envelope from SEQ in a state and so advance it
(45_stream_controller R230). -/
def buildsIn (s : State) : Instr → Bool
  | .mlImgBuild _ => true
  | .mlRadBuild => s.streaming
  | _ => false

end Sys2Proof.Machine
end

