-- ==== Sys2Proof/Certificates/Slice0/Obligations.lean ====
section
/-! DEFINITION. The statements of this row, each after the numbered rules of spec/ its docstring
names. `ret` is the model's own field (log entry 7): it holds what a rule returns or raises, and
`.none` where the rule has no result. `Frame s t xs` says that nothing but `xs` changes. -/

open Sys2Proof Sys2Proof.Machine

/-! ## Checksum Unit (40_checksum) -/

/-- R121, R122, R123: CHECKSUM returns CRC_SEED for no bytes; one more byte is xored into the running
value and then goes through eight rounds; a round takes the low bit, shifts right and xors CRC_POLY
in if the bit was 1. Nothing but the result is written. CRC_SEED is 0x15 in this hardware. -/
def Obligations.ChecksumFoldsEveryByte : Prop :=
  Config.params.raw.crcSeed = 0x15 ∧
  ∀ s : State,
    (∀ c bs, encode c (.checksum bs) = 0x08 :: (le32 bs.length ++ bs)) ∧
    (∀ bs, ∃ t, exec (.checksum bs) s = .next t ∧
      t.ret = .byte (checksum s.par.raw bs) ∧ Frame s t [.ret]) ∧
    checksum s.par.raw [] = s.par.raw.crcSeed ∧
    (∀ bs b, checksum s.par.raw (bs ++ [b]) = (crcRound s.par.raw)^[8] (checksum s.par.raw bs ^^^ b)) ∧
    (∀ v, crcRound s.par.raw v = (v >>> 1) ^^^ (if v.getLsbD 0 then s.par.raw.crcPoly else 0))

/-- R125 (a) to (f), for every CRC_POLY: zero stays zero; a round and `U` are linear; a sequence that
begins with the seed and goes on with zeros has checksum 0; a checksum is continued from that of the
bytes before; the difference of two checksums is the seedless checksum of the difference; `U(v)` is the
xor of `U(2^i)` over the set bits of `v`, and `U(0x80)` is CRC_POLY; and appending its own checksum to
a sequence gives 0 (vector T-CU-7). -/
def Obligations.ChecksumIsLinear : Prop :=
  ∀ p : Params,
    crcRound p 0 = 0 ∧ crcByte p 0 = 0 ∧
    (∀ a b, crcRound p (a ^^^ b) = crcRound p a ^^^ crcRound p b) ∧
    (∀ a b, crcByte p (a ^^^ b) = crcByte p a ^^^ crcByte p b) ∧
    (∀ n, checksum p (p.crcSeed :: List.replicate n 0) = 0) ∧
    (∀ xs b, checksum p (xs ++ [b]) = crcByte p (checksum p xs ^^^ b)) ∧
    (∀ xs ys : List Byte, xs.length = ys.length →
      checksum p xs ^^^ checksum p ys = crcFrom p 0 (List.zipWith (· ^^^ ·) xs ys)) ∧
    (∀ v : Byte, crcByte p v = (List.range 8).foldl
      (fun acc i => acc ^^^ (if v.getLsbD i then crcByte p (BitVec.ofNat 8 (2 ^ i)) else 0)) 0) ∧
    crcByte p 0x80 = p.crcPoly ∧
    (∀ xs, checksum p (xs ++ [checksum p xs]) = 0)

/-- R125 (g): if bit 7 of CRC_POLY is 1, a change confined to one payload byte changes the checksum. -/
def Obligations.ChecksumDetectsAChangedByte : Prop :=
  ∀ p : Params, p.crcPoly.getLsbD 7 = true →
    ∀ (before after : List Byte) (b c : Byte), b ≠ c →
      checksum p (before ++ b :: after) ≠ checksum p (before ++ c :: after)

/-! ## Frame Buffer Pair (41_buffer_pair) -/

/-- R140: WRITE_HANDLE returns SEL and writes no state. -/
def Obligations.WriteHandleReturnsSel : Prop :=
  (∀ c, encode c .writeHandle = [0x03]) ∧
  ∀ s : State, ∃ t, exec .writeHandle s = .next t ∧ t.ret = .handle s.handoff.sel ∧ Frame s t [.ret]

/-- R141: SWAP flips SEL and sets RDY together, marks a held view stale, and moves no byte. -/
def Obligations.SwapFlipsTheSelector : Prop :=
  (∀ c, encode c .swap = [0x04]) ∧
  ∀ s : State, ∃ t, exec .swap s = .next t ∧
    t.handoff = { sel := !s.handoff.sel, rdy := true } ∧
    t.viewStale = (if s.view = none then s.viewStale else true) ∧
    t.ret = .none ∧ Frame s t [.sel, .rdy, .viewStale, .ret]

/-- R142: TAKE_READY returns the completed buffer and clears RDY if a frame is ready, else reports
not ready and changes nothing. -/
def Obligations.TakeReadyTakesTheCompletedBuffer : Prop :=
  (∀ c, encode c .takeReady = [0x05]) ∧
  ∀ s : State, ∃ t, exec .takeReady s = .next t ∧
    (if s.handoff.rdy then
      t.ret = .ready (!s.handoff.sel) ∧ t.handoff = { sel := s.handoff.sel, rdy := false } ∧
      t.view = some (!s.handoff.sel) ∧ t.viewStale = false
    else
      t.ret = .notReady ∧ t.handoff = s.handoff ∧ t.view = s.view ∧ t.viewStale = s.viewStale) ∧
    Frame s t [.rdy, .view, .viewStale, .ret]

/-- R145: the four results of a SWAP and a TAKE_READY in either order, from a state with no view. -/
def Obligations.SwapAndTakeReadyInEitherOrder : Prop :=
  ∀ s : State, s.view = none →
    (∃ t u, exec .takeReady s = .next t ∧ exec .swap t = .next u ∧
      u.handoff = { sel := !s.handoff.sel, rdy := true } ∧
      (if s.handoff.rdy then
        t.ret = .ready (!s.handoff.sel) ∧ u.view = some (!s.handoff.sel) ∧ u.viewStale = true
      else t.ret = .notReady ∧ u.view = none ∧ u.viewStale = s.viewStale)) ∧
    (∃ t u, exec .swap s = .next t ∧ exec .takeReady t = .next u ∧
      u.ret = .ready s.handoff.sel ∧ u.handoff = { sel := !s.handoff.sel, rdy := false } ∧
      u.view = some s.handoff.sel ∧ u.viewStale = false)

/-- R147: with no SWAP in between, a TAKE_READY after another (or after reset) reports not ready,
whatever operations come between. -/
def Obligations.SecondTakeReadyFindsNothing : Prop :=
  ∀ (is : List Instr) (s t u : State), exec .takeReady s = .next t ∨ t = State.reset →
    NoSwap is t → execAll is t = .next u →
      ∃ w, exec .takeReady u = .next w ∧ w.ret = .notReady ∧ w.handoff = u.handoff

/-- R26 (iii), R149, R150, R168: SEL changes only in SWAP, RDY only in SWAP and TAKE_READY (RESET
apart), and every operation that swaps flips SEL and sets RDY. -/
def Obligations.OnlySwapAndTakeReadyWriteTheHandoff : Prop :=
  ∀ (i : Instr) (s t : State), exec i s = .next t → i ≠ .reset →
    (swapsIn s i = true → t.handoff = { sel := !s.handoff.sel, rdy := true }) ∧
    (swapsIn s i = false → t.handoff.sel = s.handoff.sel) ∧
    (swapsIn s i = false → i ≠ .takeReady → i ≠ .mlImgTake → t.handoff.rdy = s.handoff.rdy)

/-- R143: with a view held and the range inside the frame, VIEW_READ returns the view's bytes, or on
a stale view the drawn bytes, and writes no state; without a view it is refused. -/
def Obligations.ViewReadReturnsTheViewsBytes : Prop :=
  (∀ c off n draw, encode c (.viewRead off n draw) =
    0x06 :: (le32 off.toNat ++ (le32 n.toNat ++ draw.getD []))) ∧
  ∀ (off n : U32) (s : State),
    (s.view = none → ∀ draw, exec (.viewRead off n draw) s = .refused .noView) ∧
    ∀ v, s.view = some v → off.toNat + n.toNat ≤ s.par.raw.imgFrameBytes →
      (s.viewStale = false → ∃ t bs, exec (.viewRead off n none) s = .next t ∧ t.ret = .bytes bs ∧
        bs.length = n.toNat ∧ (∀ k, k < n.toNat → bs.getD k 0 = s.byteAt (.fb v) (off.toNat + k)) ∧
        Frame s t [.ret]) ∧
      (s.viewStale = true → ∀ d : List Byte, d.length = n.toNat →
        ∃ t, exec (.viewRead off n (some d)) s = .next t ∧ t.ret = .bytes d ∧ Frame s t [.ret])

/-- R61, and R143's refusal inside R223: a read outside the frame is refused, and so is an
ML_IMG_BUILD that finds no view (log entry 12). -/
def Obligations.AReadOutsideTheFrameIsRefused : Prop :=
  ∀ (off n : U32) (draw : Option (List Byte)) (s : State),
    (s.view ≠ none → s.par.raw.imgFrameBytes < off.toNat + n.toNat →
      exec (.viewRead off n draw) s = .refused .outOfRange) ∧
    (s.phase = .imgBuild → s.view = none → s.viewStale = false →
      exec (.mlImgBuild none) s = .refused .noView)

/-- R144: VIEW_RELEASE gives up the view and its hazard mark. -/
def Obligations.ViewReleaseGivesUpTheView : Prop :=
  (∀ c, encode c .viewRelease = [0x07]) ∧
  ∀ s : State, ∃ t, exec .viewRelease s = .next t ∧ t.view = none ∧ t.viewStale = false ∧
    t.ret = .none ∧ Frame s t [.view, .viewStale, .ret]

/-! ## Capture State Machine (42_capture_fsm) -/

/-- R161: CAP_WRITE stores its bytes in the line buffer it names and changes no other byte; outside
the buffer it is refused. -/
def Obligations.CaptureWriteStoresItsBytes : Prop :=
  ∀ (slot : Bool) (off : U32) (data : List Byte) (s : State),
    (off.toNat + data.length ≤ s.par.raw.lineBytes →
      ∃ t, exec (.capWrite slot off data) s = .next t ∧
        (∀ k, k < data.length → t.byteAt (.lb slot) (off.toNat + k) = data.getD k 0) ∧
        FrameBytes s t (.lb slot) off.toNat data.length ∧ t.ret = .none ∧
        Frame s t [.space (.lb slot), .ret]) ∧
    (s.par.raw.lineBytes < off.toNat + data.length →
      exec (.capWrite slot off data) s = .refused .outOfRange)

/-- R162, R163: LINE_DONE copies the line buffer LB_SLOT names into line LINE_IDX of the write target,
or nothing if the expected count is reached; the counter advances, saturating; the slot flips. -/
def Obligations.LineDoneRelocatesTheLine : Prop :=
  (∀ c, encode c .lineDone = [0x01]) ∧
  ∀ s : State, ∃ t, exec .lineDone s = .next t ∧
    (if s.lineIdx.toNat < s.par.raw.imgLines then
      (∀ k, k < s.par.raw.lineBytes →
        t.byteAt (.fb s.handoff.sel) (lineOffset s + k) = s.byteAt (.lb s.lbSlot) k) ∧
      FrameBytes s t (.fb s.handoff.sel) (lineOffset s) s.par.raw.lineBytes
    else ∀ a, t.byteAt (.fb s.handoff.sel) a = s.byteAt (.fb s.handoff.sel) a) ∧
    lineOffset s = s.lineIdx.toNat * s.par.raw.lineBytes ∧
    t.lineIdx.toNat = min (s.lineIdx.toNat + 1) 65535 ∧ t.lbSlot = !s.lbSlot ∧ t.ret = .none ∧
    Frame s t [.space (.fb s.handoff.sel), .lineIdx, .lbSlot, .ret]

/-- R164, R165: FRAME_DONE swaps if the expected count was seen, else appends one malformed-frame
event with the count found; the counter and the slot are cleared either way. -/
def Obligations.FrameDoneSwapsOnlyACompleteFrame : Prop :=
  (∀ c, encode c .frameDone = [0x02]) ∧
  ∀ s : State, ∃ t, exec .frameDone s = .next t ∧ t.lineIdx = 0 ∧ t.lbSlot = false ∧
    (if s.lineIdx.toNat = s.par.raw.imgLines then
      t.handoff = { sel := !s.handoff.sel, rdy := true } ∧
      t.viewStale = (if s.view = none then s.viewStale else true) ∧ t.diaglog = s.diaglog ∧
      t.ret = .none
    else
      t.handoff = s.handoff ∧ t.viewStale = s.viewStale ∧
      t.diaglog = s.diaglog ++
        [{ kind := .malformedFrame, info := .count s.lineIdx.toNat }] ∧
      t.ret = .raised { kind := .malformedFrame, info := .count s.lineIdx.toNat }) ∧
    Frame s t [.lineIdx, .lbSlot, .sel, .rdy, .viewStale, .diaglog, .ret]

/-- R168: from IDLE, exactly IMG_LINES line-completes and a frame-complete swap once and log nothing;
any other number of them swaps nothing and logs one event with the saturated count. -/
def Obligations.OnlyTheExpectedLineCountSwaps : Prop :=
  ∀ (s : State) (k : Nat), s.lineIdx = 0 →
    ∃ t, execAll (List.replicate k .lineDone ++ [.frameDone]) s = .next t ∧
      t.lineIdx = 0 ∧ t.lbSlot = false ∧
      (if k = s.par.raw.imgLines then
        t.handoff = { sel := !s.handoff.sel, rdy := true } ∧ t.diaglog = s.diaglog
      else
        t.handoff = s.handoff ∧
        t.diaglog = s.diaglog ++ [{ kind := .malformedFrame, info := .count (min k 65535) }])

/-- R148, R71, R63, R26 (ii): a good frame captured line by line stays in its buffer, ready, through any
operations that neither swap nor take it (nor reset); TAKE_READY then returns that buffer; and through
any operations that neither swap nor release the view (nor reset), the view goes on reading the frame,
byte for byte. -/
def Obligations.ACapturedFrameIsReadBackWhole : Prop :=
  ∀ (s : State) (data : List Byte), s.lineIdx = 0 → data.length = s.par.raw.imgFrameBytes →
    ∃ t, execAll (goodFrameOps s data) s = .next t ∧
      t.handoff = { sel := !s.handoff.sel, rdy := true } ∧
      ∀ (is : List Instr) (u : State), NoSwap is t → is.all leavesReady = true →
        execAll is t = .next u →
        u.handoff = t.handoff ∧
        u.readBytes (.fb s.handoff.sel) 0 s.par.raw.imgFrameBytes = data ∧
        ∃ v, exec .takeReady u = .next v ∧ v.ret = .ready s.handoff.sel ∧
          ∀ (js : List Instr) (w : State), NoSwap js v → js.all leavesView = true →
            execAll js v = .next w →
            ∃ x, exec (.viewRead 0 (BitVec.ofNat 32 s.par.raw.imgFrameBytes) none) w = .next x ∧
              x.ret = .bytes data

/-! ## Radar Acquisition Adapter (43_radar_adapter) -/

/-- R180, R181: RADAR_BURST sets the latch, RADAR_POLL reads it and leaves it. -/
def Obligations.RadarBurstSetsAndPollReadsTheLatch : Prop :=
  (∀ c, encode c .radarBurst = [0x21] ∧ encode c .radarPoll = [0x0A]) ∧
  ∀ s : State,
    (∃ t, exec .radarBurst s = .next t ∧ t.avail = true ∧ t.ret = .none ∧ Frame s t [.avail, .ret]) ∧
    (∃ t, exec .radarPoll s = .next t ∧ t.ret = .bit s.avail ∧ Frame s t [.ret])

/-- R182: a drain clears AVAIL whatever happens; a count mismatch raises SizeMismatch and leaves RB;
else RB takes the delivered bytes, and a failed transfer (`fault` = 1, and no other byte) raises
HardwareFault. -/
def Obligations.RadarDrainClearsTheLatchFirst : Prop :=
  (∀ c expected a, encode c (.radarDrain expected a) = 0x0B ::
    (le32 expected.toNat ++ (le32 a.spf.toNat ++ a.fault :: a.data))) ∧
  ∀ (expected : U32) (a : RadarDraw) (s : State), a.data.length = s.par.raw.radarFrameBytes →
    ∃ t, exec (.radarDrain expected a) s = .next t ∧ t.avail = false ∧
      (if expected = a.spf then
        t.readBytes .rb 0 s.par.raw.radarFrameBytes = a.data ∧
        t.ret = (if a.fault = 1 then .raised { kind := .hardwareFault, info := .none } else .ok)
      else
        (∀ k, t.byteAt .rb k = s.byteAt .rb k) ∧
        t.ret = .raised
          { kind := .sizeMismatch, info := .sizes expected.toNat a.spf.toNat }) ∧
      Frame s t [.avail, .space .rb, .ret]

/-- R184: a burst between a poll and the drain is swallowed by the drain; a burst after the drain is
kept. -/
def Obligations.ABurstBeforeTheDrainIsLost : Prop :=
  ∀ (a : RadarDraw) (expected : U32) (s : State), a.data.length = s.par.raw.radarFrameBytes →
    (∃ t, execAll [.radarPoll, .radarBurst, .radarDrain expected a, .radarPoll] s = .next t ∧
      t.ret = .bit false) ∧
    (∃ t, execAll [.radarPoll, .radarDrain expected a, .radarBurst, .radarPoll] s = .next t ∧
      t.ret = .bit true)

/-! ## Envelope Framer (44_envelope_framer) -/

/-- R200, R203: FRAME leaves the envelope in EB: two sync bytes (0x55 in this hardware), the sequence
byte, the payload's length little-endian, its checksum, and the payload unchanged. SEQ is not
written. A payload above MAX_PAYLOAD is refused (R202), with its length recorded (R260). -/
def Obligations.FrameBuildsTheEnvelope : Prop :=
  Config.params.raw.sync0 = 0x55 ∧ Config.params.raw.sync1 = 0x55 ∧
  (∀ c seq payload, encode c (.frame seq payload) =
    0x09 :: seq :: (le32 payload.length ++ payload)) ∧
  ∀ (seq : Byte) (payload : List Byte) (s : State),
    (s.par.raw.maxPayload < payload.length →
      exec (.frame seq payload) s = .refused (.payloadTooLarge
        { kind := .payloadTooLarge, info := .length payload.length })) ∧
    (payload.length ≤ s.par.raw.maxPayload →
      ∃ t e, exec (.frame seq payload) s = .next t ∧ t.ret = .bytes e ∧
        e.length = payload.length + 8 ∧ e.getD 0 0 = s.par.raw.sync0 ∧
        e.getD 1 0 = s.par.raw.sync1 ∧ e.getD 2 0 = seq ∧
        unle32 (e.getD 3 0) (e.getD 4 0) (e.getD 5 0) (e.getD 6 0) = payload.length ∧
        e.getD 7 0 = checksum s.par.raw payload ∧ e.drop 8 = payload ∧
        HoldsInEb s t e ∧ Frame s t [.space .eb, .ebLen, .ret])

/-- R204: two different pairs of sequence byte and payload give different envelopes. -/
def Obligations.EnvelopesAreInjective : Prop :=
  ∀ (p : ValidParams) (q1 q2 : Byte) (x y : List Byte),
    x.length ≤ p.raw.maxPayload → y.length ≤ p.raw.maxPayload →
    frameBytes p.raw x q1 = frameBytes p.raw y q2 → q1 = q2 ∧ x = y

/-- R202, R260: a payload above the pre-allocated maximum is refused with its length recorded, by FRAME
and (the model's reading, log entry 9) by the ENVELOPE row. -/
def Obligations.AnOversizedPayloadIsRefused : Prop :=
  ∀ (seq cks : Byte) (payload : List Byte) (s : State), s.par.raw.maxPayload < payload.length →
    exec (.frame seq payload) s = .refused (.payloadTooLarge
      { kind := .payloadTooLarge, info := .length payload.length }) ∧
    exec (.envelope seq cks payload) s = .refused (.payloadTooLarge
      { kind := .payloadTooLarge, info := .length payload.length })

/-- The model's own reading of the table's ENVELOPE row (log entry 9), over R91's layout: an envelope
with any checksum byte becomes the one EB holds. -/
def Obligations.AnEnvelopeRowIsHeldInEb : Prop :=
  ∀ (seq cks : Byte) (payload : List Byte) (s : State), payload.length ≤ s.par.raw.maxPayload →
    ∃ t, exec (.envelope seq cks payload) s = .next t ∧ t.ret = .none ∧
      HoldsInEb s t ([s.par.raw.sync0, s.par.raw.sync1, seq] ++ le32 payload.length ++ [cks] ++ payload) ∧
      Frame s t [.space .eb, .ebLen, .ret]

/-! ## Stream controller (45_stream_controller) -/

/-- R235: HOST_CMD queues its byte and has no other effect. -/
def Obligations.HostCommandIsQueued : Prop :=
  (∀ c b, encode c (.hostCmd b) = [0x22, b]) ∧
  ∀ (b : Byte) (s : State), ∃ t, exec (.hostCmd b) s = .next t ∧ t.cmdq = s.cmdq ++ [b] ∧
    t.ret = .none ∧ Frame s t [.cmdq, .ret]

/-- R96, R97: of the 256 command bytes CMD_START's sets STREAMING and clears SEND_CNT, and every other
one clears STREAMING. CMD_START's byte is 49 in this hardware. That the two rows complete as operations
of their own, in every phase and without CMDQ and PHASE, is the model's reading (log entry 8). -/
def Obligations.OneByteStartsAndEveryOtherStops : Prop :=
  Config.params.raw.cmdStart = 49 ∧
  ∀ s : State,
    decodeCommand s.par.raw s.par.raw.cmdStart = .cmdStart ∧
    (∀ b, b ≠ s.par.raw.cmdStart → decodeCommand s.par.raw b = .cmdStop b) ∧
    (∃ t, exec .cmdStart s = .next t ∧ t.streaming = true ∧ t.sendCnt = 0 ∧ t.ret = .none ∧
      Frame s t [.streaming, .sendCnt, .ret]) ∧
    (∀ b, ∃ t, exec (.cmdStop b) s = .next t ∧ t.streaming = false ∧ t.ret = .none ∧
      Frame s t [.streaming, .ret])

/-- R221: ML_CMD pops at most one command byte and performs it; SEQ is not reset; PHASE goes to
PH_IMG_TAKE. -/
def Obligations.MlCmdPerformsOneCommandByte : Prop :=
  (∀ c, encode c .mlCmd = [0x10]) ∧
  ∀ s : State, s.phase = .cmd → ∃ t, exec .mlCmd s = .next t ∧ t.phase = .imgTake ∧ t.ret = .none ∧
    (s.cmdq = [] → t.cmdq = [] ∧ t.streaming = s.streaming ∧ t.sendCnt = s.sendCnt) ∧
    (∀ b rest, s.cmdq = b :: rest → t.cmdq = rest ∧
      t.streaming = decide (b = s.par.raw.cmdStart) ∧
      t.sendCnt = if b = s.par.raw.cmdStart then 0 else s.sendCnt) ∧
    Frame s t [.cmdq, .streaming, .sendCnt, .phase, .ret]

/-- R222: ML_IMG_TAKE takes the ready frame's view and goes to PH_IMG_BUILD, or with nothing ready
goes to PH_RAD_POLL, streaming or not. -/
def Obligations.MlImgTakePollsTheBufferPair : Prop :=
  (∀ c, encode c .mlImgTake = [0x11]) ∧
  ∀ s : State, s.phase = .imgTake → ∃ t, exec .mlImgTake s = .next t ∧ t.ret = .none ∧
    (if s.handoff.rdy then
      t.phase = .imgBuild ∧ t.handoff = { sel := s.handoff.sel, rdy := false } ∧
      t.view = some (!s.handoff.sel) ∧ t.viewStale = false
    else
      t.phase = .radPoll ∧ t.handoff = s.handoff ∧ t.view = s.view ∧ t.viewStale = s.viewStale) ∧
    Frame s t [.rdy, .view, .viewStale, .phase, .ret]

/-- R223: on a fresh view the envelope of the viewed frame with its checksum and the old SEQ is left
in EB; on a stale view (R305) payload and checksum byte are the draw's, under an exact header, and no
error is raised. SEQ advances and the view is released, streaming or not. That the stale branch also
runs with VIEW = NONE, which R223's precondition excludes, is the model's choice (log entry 12). -/
def Obligations.MlImgBuildFramesTheTakenFrame : Prop :=
  (∀ c, encode c (.mlImgBuild none) = [0x12]) ∧
  (∀ c d, encode c (.mlImgBuild (some d)) = 0x12 :: d.checksum :: d.payload) ∧
  ∀ s : State, s.phase = .imgBuild →
    (∀ v, s.view = some v → s.viewStale = false →
      ∃ t, exec (.mlImgBuild none) s = .next t ∧
        HoldsInEb s t
          (frameBytes s.par.raw (s.readBytes (.fb v) 0 s.par.raw.imgFrameBytes) s.seq) ∧
        t.seq = s.seq + 1 ∧ t.view = none ∧ t.viewStale = false ∧ t.phase = .imgTx ∧
        t.ret = .none ∧
        Frame s t [.space .eb, .ebLen, .seq, .view, .viewStale, .phase, .ret]) ∧
    (s.viewStale = true → ∀ d : StaleDraw, d.payload.length = s.par.raw.imgFrameBytes →
      ∃ t, exec (.mlImgBuild (some d)) s = .next t ∧
        HoldsInEb s t
          ([s.par.raw.sync0, s.par.raw.sync1, s.seq] ++ le32 s.par.raw.imgFrameBytes ++
            [d.checksum] ++ d.payload) ∧
        t.seq = s.seq + 1 ∧ t.view = none ∧ t.viewStale = false ∧ t.phase = .imgTx ∧
        t.ret = .none ∧
        Frame s t [.space .eb, .ebLen, .seq, .view, .viewStale, .phase, .ret])

/-- R224: with STREAMING = 1 ML_IMG_TX is a TRANSMIT, with STREAMING = 0 nothing is appended to
TXLOG; PHASE goes to PH_RAD_POLL. The model's choices in it: an EB_LEN below 8 is not shut out (log
entry 11), `delivered` is not looked at on Ok (log entry 17), `ret` is the transmit's (log entry 7). -/
def Obligations.MlImgTxSendsOnlyWhileStreaming : Prop :=
  (∀ c, encode c (.mlImgTx none) = [0x13]) ∧
  (∀ c a, encode c (.mlImgTx (some a)) = 0x13 :: outcomeCode a.outcome :: le32 a.delivered.toNat) ∧
  ∀ s : State, s.phase = .imgTx → s.ebLen ≤ s.par.raw.maxPayload + 8 →
    (s.streaming = true → ∀ a : TxDraw, TxAllowed s a →
      ∃ t, exec (.mlImgTx (some a)) s = .next t ∧ TransmitEffect s t a ∧ t.phase = .radPoll ∧
        Frame s t [.txlog, .sendCnt, .streaming, .phase, .ret]) ∧
    (s.streaming = false →
      ∃ t, exec (.mlImgTx none) s = .next t ∧ t.phase = .radPoll ∧ t.ret = .none ∧
        Frame s t [.phase, .ret])

/-- R225: TRANSMIT delivers the whole envelope and counts it, or on a failure delivers a prefix and
clears STREAMING. The model's choices in it: an EB_LEN below 8 is not shut out (log entry 11), and
`delivered` is not looked at on Ok (log entry 17). -/
def Obligations.TransmitDeliversOrStopsStreaming : Prop :=
  (∀ c a, encode c (.transmit a) = 0x0C :: outcomeCode a.outcome :: le32 a.delivered.toNat) ∧
  ∀ (a : TxDraw) (s : State), s.ebLen ≤ s.par.raw.maxPayload + 8 → TxAllowed s a →
    ∃ t, exec (.transmit a) s = .next t ∧ TransmitEffect s t a ∧
      Frame s t [.txlog, .sendCnt, .streaming, .ret]

/-- R225 (vector T-SC-15): a failed transmit that delivers more than EB_LEN bytes is no run. -/
def Obligations.AFailedTransmitDeliversAtMostTheEnvelope : Prop :=
  ∀ (a : TxDraw) (s : State), a.outcome ≠ .ok → s.ebLen < a.delivered.toNat →
    exec (.transmit a) s = .refused .deliveredOutOfRange ∧
    (s.phase = .imgTx → s.streaming = true →
      exec (.mlImgTx (some a)) s = .refused .deliveredOutOfRange) ∧
    (s.phase = .radTx → s.streaming = true →
      exec (.mlRadTx a) s = .refused .deliveredOutOfRange)

/-- R226: ML_RAD_POLL goes to PH_RAD_DRAIN if a burst is available, else ends the iteration; AVAIL is
left. -/
def Obligations.MlRadPollFollowsTheLatch : Prop :=
  (∀ c, encode c .mlRadPoll = [0x14]) ∧
  ∀ s : State, s.phase = .radPoll → ∃ t, exec .mlRadPoll s = .next t ∧
    t.phase = (if s.avail then .radDrain else .cmd) ∧ t.ret = .none ∧ Frame s t [.phase, .ret]

/-- R227: ML_RAD_DRAIN drains RADAR_SAMPLES samples; `Ok` goes to PH_RAD_BUILD; either failure is
logged once and ends the iteration; STREAMING and SEQ stay. -/
def Obligations.MlRadDrainLogsAndContinues : Prop :=
  (∀ c a, encode c (.mlRadDrain a) =
    0x15 :: (le32 a.spf.toNat ++ a.fault :: a.data)) ∧
  ∀ (a : RadarDraw) (s : State), s.phase = .radDrain →
    a.data.length = s.par.raw.radarFrameBytes →
    ∃ t, exec (.mlRadDrain a) s = .next t ∧ t.avail = false ∧
      (if s.par.raw.radarSamples = a.spf.toNat then
        t.readBytes .rb 0 s.par.raw.radarFrameBytes = a.data ∧
        (if a.fault = 1 then
          t.phase = .cmd ∧ t.diaglog = s.diaglog ++ [{ kind := .hardwareFault, info := .none }] ∧
          t.ret = .raised { kind := .hardwareFault, info := .none }
        else t.phase = .radBuild ∧ t.diaglog = s.diaglog ∧ t.ret = .none)
      else
        (∀ k, t.byteAt .rb k = s.byteAt .rb k) ∧ t.phase = .cmd ∧
        t.diaglog = s.diaglog ++
          [{ kind := .sizeMismatch, info := .sizes s.par.raw.radarSamples a.spf.toNat }] ∧
        t.ret = .raised
          { kind := .sizeMismatch, info := .sizes s.par.raw.radarSamples a.spf.toNat }) ∧
      Frame s t [.avail, .space .rb, .diaglog, .phase, .ret]

/-- R228: ML_RAD_BUILD frames RB with SEQ and advances SEQ only while streaming; else it ends the
iteration and SEQ stays. -/
def Obligations.MlRadBuildFramesOnlyWhileStreaming : Prop :=
  (∀ c, encode c .mlRadBuild = [0x16]) ∧
  ∀ s : State, s.phase = .radBuild →
    (s.streaming = true → ∃ t, exec .mlRadBuild s = .next t ∧
      HoldsInEb s t (frameBytes s.par.raw (s.readBytes .rb 0 s.par.raw.radarFrameBytes) s.seq) ∧
      t.seq = s.seq + 1 ∧ t.phase = .radTx ∧ t.ret = .none ∧
      Frame s t [.space .eb, .ebLen, .seq, .phase, .ret]) ∧
    (s.streaming = false → ∃ t, exec .mlRadBuild s = .next t ∧ t.phase = .cmd ∧ t.ret = .none ∧
      Frame s t [.phase, .ret])

/-- R229: ML_RAD_TX transmits while STREAMING = 1 and ends the iteration. The model's choices in it: an
EB_LEN below 8 is not shut out (log entry 11), `delivered` is not looked at on Ok (log entry 17), the
answer is there and unused with STREAMING = 0 (log entry 24), `ret` is the transmit's (log entry 7). -/
def Obligations.MlRadTxSendsAndEndsTheIteration : Prop :=
  (∀ c a, encode c (.mlRadTx a) = 0x17 :: outcomeCode a.outcome :: le32 a.delivered.toNat) ∧
  ∀ (a : TxDraw) (s : State), s.phase = .radTx → s.ebLen ≤ s.par.raw.maxPayload + 8 →
    (s.streaming = true → TxAllowed s a → ∃ t, exec (.mlRadTx a) s = .next t ∧
      TransmitEffect s t a ∧ t.phase = .cmd ∧
      Frame s t [.txlog, .sendCnt, .streaming, .phase, .ret]) ∧
    (s.streaming = false → ∃ t, exec (.mlRadTx a) s = .next t ∧ t.phase = .cmd ∧ t.ret = .none ∧
      Frame s t [.phase, .ret])

/-- The model's reading of R99 and R104 (log entry 13): a record whose draw is not the one its
operation asks for in this state is refused. -/
def Obligations.ADrawThatDoesNotFitIsRefused : Prop :=
  ∀ s : State,
    (∀ off n draw, s.view ≠ none → off.toNat + n.toNat ≤ s.par.raw.imgFrameBytes →
      viewDrawOk s.viewStale n draw = false →
      exec (.viewRead off n draw) s = .refused .drawMismatch) ∧
    (∀ expected a, a.data.length ≠ s.par.raw.radarFrameBytes →
      exec (.radarDrain expected a) s = .refused .drawMismatch ∧
      (s.phase = .radDrain → exec (.mlRadDrain a) s = .refused .drawMismatch)) ∧
    (∀ draw, s.phase = .imgBuild → staleDrawOk s.ctx draw = false →
      exec (.mlImgBuild draw) s = .refused .drawMismatch) ∧
    (∀ answer, s.phase = .imgTx → answer.isSome ≠ s.streaming →
      exec (.mlImgTx answer) s = .refused .drawMismatch)

/-- R102, R220: an ML operation in any phase but its own is refused. -/
def Obligations.AnMlOperationOutOfPhaseIsRefused : Prop :=
  ∀ (i : Instr) (s : State) (c : BitVec 3),
    (encode s.ctx i).head? = some (0x10 + c.zeroExtend 8) → i.format = .opsel →
    s.phase ≠ Phase.ofCode c → exec i s = .refused .wrongPhase

/-- R230: SEQ advances by one, modulo 256, exactly in an operation that builds an envelope from it:
ML_IMG_BUILD, and ML_RAD_BUILD while streaming. Nothing else but RESET writes it. -/
def Obligations.SeqAdvancesOncePerEnvelopeBuilt : Prop :=
  ∀ (i : Instr) (s t : State), exec i s = .next t → i ≠ .reset →
    t.seq.toNat = (if buildsIn s i then (s.seq.toNat + 1) % 256 else s.seq.toNat)

/-- R233: in a run of the agents' own moves that begins with STREAMING = 0 and in which no ML_CMD pops a
start command, STREAMING stays 0, an empty TXLOG stays empty, and without a RESET TXLOG stays as it is. -/
def Obligations.NothingIsSentBeforeAStart : Prop :=
  ∀ (is : List Instr) (s t : State), s.streaming = false → NoStartPopped is s →
    execAll is s = .next t →
      t.streaming = false ∧ (s.txlog = [] → t.txlog = []) ∧ (.reset ∉ is → t.txlog = s.txlog)

/-- R234: a failed transmit clears STREAMING, and after it, until an ML_CMD pops a start command (or a
RESET empties it), TXLOG stays as it is. -/
def Obligations.AFailedTransmitSilencesTheLoop : Prop :=
  ∀ (a : TxDraw) (i : Instr) (s t : State), a.outcome ≠ .ok →
    i = .transmit a ∨ i = .mlImgTx (some a) ∨ (i = .mlRadTx a ∧ s.streaming = true) →
    exec i s = .next t →
      t.streaming = false ∧
      ∀ (is : List Instr) (u : State), NoStartPopped is t → execAll is t = .next u →
        u.streaming = false ∧ (.reset ∉ is → u.txlog = t.txlog)

/-- R232: TXLOG stays a concatenation of prefixes of envelopes, whole or cut short, and EB goes on
holding an envelope, in every step. -/
def Obligations.TxLogStaysAConcatenationOfEnvelopes : Prop :=
  ∀ s t : State, s.HoldsEnvelope → TxFramed s.par.raw s.txlog → step s = .next t →
    t.HoldsEnvelope ∧ TxFramed t.par.raw t.txlog

/-- R238: from reset, with any valid parameters, a start command, a well-formed frame and one
iteration whose transmit is `Ok` put exactly the frame's envelope with sequence 0 into TXLOG. -/
def Obligations.AStartedFrameReachesTheHost : Prop :=
  ∀ (p : ValidParams) (data : List Byte), data.length = p.raw.imgFrameBytes →
    ∃ t u, execAll (startOps (State.resetOf p) ++ goodFrameOps (State.resetOf p) data)
        (State.resetOf p) = .next t ∧
      iterate [.tx { outcome := .ok, delivered := 0 }] t = .next u ∧
      u.txlog = frameBytes p.raw data 0 ∧ u.seq = 1

/-! ## Platform (70_reset_and_hazards) -/

/-- R300, R39: RESET gives every register its reset value and every byte of storage a draw of its
own, fixed until the next RESET; the parameters stay (R40). -/
def Obligations.ResetGivesEveryElementItsValue : Prop :=
  (∀ c, encode c .reset = [0x3F]) ∧
  ∀ s : State, ∃ t, exec .reset s = .next t ∧
    t.handoff = { sel := false, rdy := false } ∧ t.lineIdx = 0 ∧ t.lbSlot = false ∧
    t.avail = false ∧ t.streaming = false ∧ t.seq = 0 ∧ t.sendCnt = 0 ∧ t.phase = .cmd ∧
    t.view = none ∧ t.viewStale = false ∧ t.ebLen = 0 ∧ t.cmdq = [] ∧ t.txlog = [] ∧
    t.diaglog = [] ∧ t.expectedLines = s.par.raw.imgLines ∧ t.par = s.par ∧
    (∀ sp a, t.byteAt sp a = Config.powerOn (s.powerUps + 1) sp a)

/-- R8, R302: a machine starts from a parameter record exactly when the collaborators are up and the
record meets the constraints. -/
def Obligations.BootRefusesABadParameterRecord : Prop :=
  ∀ (c : Collaborators) (p : Params),
    (c.up = false → State.boot c p = .fault .hardwareInitFailure) ∧
    (c.up = true → ¬ p.Valid → State.boot c p = .refused .configFatal) ∧
    (c.up = true → ∀ h : p.Valid, State.boot c p = .next (State.resetOf ⟨p, h⟩))

/-- The opcode table's HANDOFF row is "not an instruction": its arm stops. -/
def Obligations.TheControlWordRowIsNoOperation : Prop :=
  ∀ (sel rdy : Bool) (s : State), exec (.handoff sel rdy) s = .refused .notAnOperation

/-! ## The machine as a whole -/

/-- R104, R99: a step runs the next record of the trace: the operation the decoder reads, in the
state with the record taken off. That the pending records are the field `trace` is the model's choice
(log entry 4). Bytes that are no record are refused: an unassigned code by R102, a cut record and an
operand out of its range by the model's reading (log entry 13). -/
def Obligations.AStepRunsTheNextRecord : Prop :=
  ∀ s : State, s.trace ≠ [] →
    (∀ i rest, decodeRecord s.ctx s.trace = .ok (i, rest) → step s = exec i (s.setTrace rest)) ∧
    (∀ e, decodeRecord s.ctx s.trace = .error e → step s = .refused (refusalOf e))

/-- R220, R35, R99: with no record pending the step is the CONSUMER's operation, the well-formed one
whose code is `0x10 + PHASE`. -/
def Obligations.WithNoRecordTheConsumerMoves : Prop :=
  ∀ s : State, s.trace = [] →
    step s = exec (consumerOp s) s.drawOnce ∧ WellFormed s.ctx (consumerOp s) = true ∧
    (encode s.ctx (consumerOp s)).head? = some (0x10 + s.phase.code.zeroExtend 8)

/-- R102: a record whose code is not in R99's table is refused by its code. -/
def Obligations.UnassignedCodesAreRefused : Prop :=
  ∀ (s : State) (code : Byte) (bs : List Byte), s.trace = code :: bs →
    (code.toNat = 0 ∨ (0x0D ≤ code.toNat ∧ code.toNat ≤ 0x0F) ∨
      (0x18 ≤ code.toNat ∧ code.toNat ≤ 0x1F) ∨ (0x23 ≤ code.toNat ∧ code.toNat ≤ 0x3E) ∨
      0x40 ≤ code.toNat) →
    step s = .refused (.unknownOpsel code)

/-- R99, R91, R96, R98: decoding what the encoder writes for a well-formed operation gives that
operation and leaves what follows it. -/
def Obligations.DecodingAnEncodedOperationGivesItBack : Prop :=
  ∀ (c : Ctx) (i : Instr) (rest : List Byte), WellFormed c i = true →
    decode c i.format (encode c i ++ rest) = .ok (i, rest)

/-- R99, R98, R91 (vectors T-EN-4, T-EN-9, T-EN-11, T-EN-14, T-EN-15): three records, a control word and
an envelope header, written out from the encodings, decode to what they stand for. -/
def Obligations.WordsFromTheSpecDecode : Prop :=
  (∀ c : Ctx,
    decodeRecord c [0x20, 0x01, 0x00, 0x00, 0x00, 0x00, 0x05, 0x00, 0x00, 0x00, 0x06, 0x07, 0x08,
      0x09, 0x0A] = .ok (.capWrite true 0 [6, 7, 8, 9, 10], []) ∧
    decodeRecord c [0x0C, 0x02, 0x03, 0x00, 0x00, 0x00] =
      .ok (.transmit { outcome := .timeout, delivered := 3 }, []) ∧
    decodeRecord c [0x22, 0x31] = .ok (.hostCmd 0x31, [])) ∧
  decodeHandoff 0x02 = .ok (.handoff true false) ∧
  ∀ (cks : Byte) (payload : List Byte), payload.length = 307200 →
    decodeEnvelope Config.params.raw
      (0x55 :: 0x55 :: 0x80 :: 0x00 :: 0xB0 :: 0x04 :: 0x00 :: cks :: payload) =
        .ok (.envelope 0x80 cks payload, [])

/-- The invariant holds after reset, whatever the parameters (R39). -/
def Obligations.TheInvariantHoldsAtReset : Prop :=
  ∀ p : ValidParams, (State.resetOf p).Inv ∧ State.reset.Inv

/-- R24, R26 (iv), R36, R60: every step keeps the storage in canonical form and inside its sizes,
EB_LEN in its range, an unmarked view on the readable buffer, and the mark on a held view only. -/
def Obligations.EveryStepKeepsTheInvariant : Prop :=
  ∀ s t : State, s.Inv → step s = .next t → t.Inv

/-- R38, R276, R167: an operation changes only what its agent may write. R38 has no column for the
platform (RESET's list is log entry 16) and no agent for the rows CMD_START, CMD_STOP and ENVELOPE (the
model gives them to the CONSUMER, log entries 8 and 9). -/
def Obligations.AgentsWriteOnlyWhatIsTheirs : Prop :=
  ∀ (i : Instr) (a : Agent) (s t : State), i.agent = some a → exec i s = .next t →
    Frame s t (agentWrites s a)

/-- R61: no operation but the two whose operands name an offset can leave a storage space. -/
def Obligations.NoOtherOperationLeavesItsSpace : Prop :=
  ∀ (i : Instr) (s : State), s.Inv → (∀ slot off data, i ≠ .capWrite slot off data) →
    (∀ off n draw, i ≠ .viewRead off n draw) → exec i s ≠ .refused .outOfRange

/-- R220, R231, R239: with no record pending, an iteration begun in PH_CMD is back in PH_CMD after 3
to 8 of the CONSUMER's operations, and not before. That the CONSUMER then moves by itself, with free
draws, is the model's choice (log entries 5 and 6). -/
def Obligations.AnIterationTakesThreeToEightOperations : Prop :=
  ∀ s : State, s.trace = [] → s.phase = .cmd →
    ∃ k t, 3 ≤ k ∧ k ≤ 8 ∧ runSteps k s = .next t ∧ t.phase = .cmd ∧ t.trace = [] ∧
      ∀ j, 0 < j → j < k → ∃ u, runSteps j s = .next u ∧ u.phase ≠ .cmd

/-- R229, R220: of the agents' own moves only ML_RAD_BUILD enters PH_RAD_TX, and only with STREAMING = 1;
and in every such move PH_RAD_TX goes on implying STREAMING = 1. -/
def Obligations.RadTxIsEnteredOnlyWhileStreaming : Prop :=
  ∀ (i : Instr) (s t : State), isMove i = true → exec i s = .next t →
    (s.phase ≠ .radTx → t.phase = .radTx → i = .mlRadBuild ∧ s.streaming = true) ∧
    ((s.phase = .radTx → s.streaming = true) → t.phase = .radTx → t.streaming = true)

/-- R182, R227: `fault` = 1 is the one byte that makes a drain raise HardwareFault. With any other byte both
drains complete, in the next state they have for the byte 0. -/
def Obligations.AFaultByteAboveOneStillDrains : Prop :=
  ∀ (a : RadarDraw) (expected : U32) (s : State), a.data.length = s.par.raw.radarFrameBytes →
    a.fault ≠ 1 →
    (∃ t, exec (.radarDrain expected a) s = .next t ∧
      exec (.radarDrain expected { a with fault := 0 }) s = .next t ∧
      t.ret ≠ .raised { kind := .hardwareFault, info := .none }) ∧
    (s.phase = .radDrain → ∃ t, exec (.mlRadDrain a) s = .next t ∧
      exec (.mlRadDrain { a with fault := 0 }) s = .next t ∧
      t.ret ≠ .raised { kind := .hardwareFault, info := .none })

/-- R3, R7: each literal of DOC00 is a named parameter. The machine of State.reset has DOC00's values; a
machine starts from any record that meets R8; no step changes the record; and in every state CRC_SEED,
SYNC0, SYNC1, CMD_START and IMG_LINES are what its record says they are. -/
def Obligations.EveryLiteralIsANamedParameter : Prop :=
  Config.params.raw.HasDocLiterals ∧ State.reset.par = Config.params ∧
  (∀ (c : Collaborators) (p : ValidParams), c.up = true →
    State.boot c p.raw = .next (State.resetOf p) ∧ (State.resetOf p).par = p) ∧
  (∀ s t : State, step s = .next t → t.par = s.par) ∧
  ∀ s : State,
    (∃ t, exec (.checksum []) s = .next t ∧ t.ret = .byte s.par.raw.crcSeed) ∧
    (∀ seq, ∃ t, exec (.frame seq []) s = .next t ∧
      t.byteAt .eb 0 = s.par.raw.sync0 ∧ t.byteAt .eb 1 = s.par.raw.sync1) ∧
    (∀ b rest, s.phase = .cmd → s.cmdq = b :: rest →
      ∃ t, exec .mlCmd s = .next t ∧ t.streaming = decide (b = s.par.raw.cmdStart)) ∧
    (∃ t, exec .frameDone s = .next t ∧
      t.handoff.sel = (if s.lineIdx.toNat = s.par.raw.imgLines then !s.handoff.sel
        else s.handoff.sel))
end

