-- ==== Sys2Proof/Laws/State.lean ====
section
/-! SUPPORT. What each named update of State.lean's record leaves in each field, so that no later
proof unfolds an update. -/

namespace Sys2Proof.Machine

/-! ### `State.returns` -/

@[simp] theorem State.returns_par (s : State) (r : Ret) : (s.returns r).par = s.par := rfl
@[simp] theorem State.returns_store (s : State) (r : Ret) : (s.returns r).store = s.store := rfl
@[simp] theorem State.returns_ebLen (s : State) (r : Ret) : (s.returns r).ebLen = s.ebLen := rfl
@[simp] theorem State.returns_handoff (s : State) (r : Ret) :
    (s.returns r).handoff = s.handoff := rfl
@[simp] theorem State.returns_lineIdx (s : State) (r : Ret) :
    (s.returns r).lineIdx = s.lineIdx := rfl
@[simp] theorem State.returns_lbSlot (s : State) (r : Ret) : (s.returns r).lbSlot = s.lbSlot := rfl
@[simp] theorem State.returns_avail (s : State) (r : Ret) : (s.returns r).avail = s.avail := rfl
@[simp] theorem State.returns_streaming (s : State) (r : Ret) :
    (s.returns r).streaming = s.streaming := rfl
@[simp] theorem State.returns_seq (s : State) (r : Ret) : (s.returns r).seq = s.seq := rfl
@[simp] theorem State.returns_sendCnt (s : State) (r : Ret) :
    (s.returns r).sendCnt = s.sendCnt := rfl
@[simp] theorem State.returns_phase (s : State) (r : Ret) : (s.returns r).phase = s.phase := rfl
@[simp] theorem State.returns_view (s : State) (r : Ret) : (s.returns r).view = s.view := rfl
@[simp] theorem State.returns_viewStale (s : State) (r : Ret) :
    (s.returns r).viewStale = s.viewStale := rfl
@[simp] theorem State.returns_cmdq (s : State) (r : Ret) : (s.returns r).cmdq = s.cmdq := rfl
@[simp] theorem State.returns_txlog (s : State) (r : Ret) : (s.returns r).txlog = s.txlog := rfl
@[simp] theorem State.returns_diaglog (s : State) (r : Ret) :
    (s.returns r).diaglog = s.diaglog := rfl
@[simp] theorem State.returns_ret (s : State) (r : Ret) : (s.returns r).ret = r := rfl
@[simp] theorem State.returns_trace (s : State) (r : Ret) : (s.returns r).trace = s.trace := rfl
@[simp] theorem State.returns_powerUps (s : State) (r : Ret) :
    (s.returns r).powerUps = s.powerUps := rfl
@[simp] theorem State.returns_draws (s : State) (r : Ret) : (s.returns r).draws = s.draws := rfl
@[simp] theorem State.returns_byteAt (s : State) (r : Ret) (sp : Space) (k : Nat) :
    (s.returns r).byteAt sp k = s.byteAt sp k := rfl
@[simp] theorem State.returns_sizeOf (s : State) (r : Ret) (sp : Space) :
    (s.returns r).sizeOf sp = s.sizeOf sp := rfl

/-! ### `State.raises` -/

@[simp] theorem State.raises_par (s : State) (d : Diag) : (s.raises d).par = s.par := rfl
@[simp] theorem State.raises_store (s : State) (d : Diag) : (s.raises d).store = s.store := rfl
@[simp] theorem State.raises_ebLen (s : State) (d : Diag) : (s.raises d).ebLen = s.ebLen := rfl
@[simp] theorem State.raises_handoff (s : State) (d : Diag) :
    (s.raises d).handoff = s.handoff := rfl
@[simp] theorem State.raises_lineIdx (s : State) (d : Diag) :
    (s.raises d).lineIdx = s.lineIdx := rfl
@[simp] theorem State.raises_lbSlot (s : State) (d : Diag) : (s.raises d).lbSlot = s.lbSlot := rfl
@[simp] theorem State.raises_avail (s : State) (d : Diag) : (s.raises d).avail = s.avail := rfl
@[simp] theorem State.raises_streaming (s : State) (d : Diag) :
    (s.raises d).streaming = s.streaming := rfl
@[simp] theorem State.raises_seq (s : State) (d : Diag) : (s.raises d).seq = s.seq := rfl
@[simp] theorem State.raises_sendCnt (s : State) (d : Diag) :
    (s.raises d).sendCnt = s.sendCnt := rfl
@[simp] theorem State.raises_phase (s : State) (d : Diag) : (s.raises d).phase = s.phase := rfl
@[simp] theorem State.raises_view (s : State) (d : Diag) : (s.raises d).view = s.view := rfl
@[simp] theorem State.raises_viewStale (s : State) (d : Diag) :
    (s.raises d).viewStale = s.viewStale := rfl
@[simp] theorem State.raises_cmdq (s : State) (d : Diag) : (s.raises d).cmdq = s.cmdq := rfl
@[simp] theorem State.raises_txlog (s : State) (d : Diag) : (s.raises d).txlog = s.txlog := rfl
@[simp] theorem State.raises_diaglog (s : State) (d : Diag) :
    (s.raises d).diaglog = s.diaglog := rfl
@[simp] theorem State.raises_ret (s : State) (d : Diag) : (s.raises d).ret = .raised d := rfl
@[simp] theorem State.raises_trace (s : State) (d : Diag) : (s.raises d).trace = s.trace := rfl
@[simp] theorem State.raises_powerUps (s : State) (d : Diag) :
    (s.raises d).powerUps = s.powerUps := rfl
@[simp] theorem State.raises_draws (s : State) (d : Diag) : (s.raises d).draws = s.draws := rfl
@[simp] theorem State.raises_byteAt (s : State) (d : Diag) (sp : Space) (k : Nat) :
    (s.raises d).byteAt sp k = s.byteAt sp k := rfl
@[simp] theorem State.raises_sizeOf (s : State) (d : Diag) (sp : Space) :
    (s.raises d).sizeOf sp = s.sizeOf sp := rfl

/-! ### `State.emit` -/

@[simp] theorem State.emit_par (s : State) (d : Diag) : (s.emit d).par = s.par := rfl
@[simp] theorem State.emit_store (s : State) (d : Diag) : (s.emit d).store = s.store := rfl
@[simp] theorem State.emit_ebLen (s : State) (d : Diag) : (s.emit d).ebLen = s.ebLen := rfl
@[simp] theorem State.emit_handoff (s : State) (d : Diag) : (s.emit d).handoff = s.handoff := rfl
@[simp] theorem State.emit_lineIdx (s : State) (d : Diag) : (s.emit d).lineIdx = s.lineIdx := rfl
@[simp] theorem State.emit_lbSlot (s : State) (d : Diag) : (s.emit d).lbSlot = s.lbSlot := rfl
@[simp] theorem State.emit_avail (s : State) (d : Diag) : (s.emit d).avail = s.avail := rfl
@[simp] theorem State.emit_streaming (s : State) (d : Diag) :
    (s.emit d).streaming = s.streaming := rfl
@[simp] theorem State.emit_seq (s : State) (d : Diag) : (s.emit d).seq = s.seq := rfl
@[simp] theorem State.emit_sendCnt (s : State) (d : Diag) : (s.emit d).sendCnt = s.sendCnt := rfl
@[simp] theorem State.emit_phase (s : State) (d : Diag) : (s.emit d).phase = s.phase := rfl
@[simp] theorem State.emit_view (s : State) (d : Diag) : (s.emit d).view = s.view := rfl
@[simp] theorem State.emit_viewStale (s : State) (d : Diag) :
    (s.emit d).viewStale = s.viewStale := rfl
@[simp] theorem State.emit_cmdq (s : State) (d : Diag) : (s.emit d).cmdq = s.cmdq := rfl
@[simp] theorem State.emit_txlog (s : State) (d : Diag) : (s.emit d).txlog = s.txlog := rfl
@[simp] theorem State.emit_diaglog (s : State) (d : Diag) :
    (s.emit d).diaglog = s.diaglog ++ [d] := rfl
@[simp] theorem State.emit_ret (s : State) (d : Diag) : (s.emit d).ret = s.ret := rfl
@[simp] theorem State.emit_trace (s : State) (d : Diag) : (s.emit d).trace = s.trace := rfl
@[simp] theorem State.emit_powerUps (s : State) (d : Diag) : (s.emit d).powerUps = s.powerUps := rfl
@[simp] theorem State.emit_draws (s : State) (d : Diag) : (s.emit d).draws = s.draws := rfl
@[simp] theorem State.emit_byteAt (s : State) (d : Diag) (sp : Space) (k : Nat) :
    (s.emit d).byteAt sp k = s.byteAt sp k := rfl
@[simp] theorem State.emit_sizeOf (s : State) (d : Diag) (sp : Space) :
    (s.emit d).sizeOf sp = s.sizeOf sp := rfl

/-! ### `State.countLine` -/

@[simp] theorem State.countLine_par (s : State) : s.countLine.par = s.par := rfl
@[simp] theorem State.countLine_store (s : State) : s.countLine.store = s.store := rfl
@[simp] theorem State.countLine_ebLen (s : State) : s.countLine.ebLen = s.ebLen := rfl
@[simp] theorem State.countLine_handoff (s : State) : s.countLine.handoff = s.handoff := rfl
@[simp] theorem State.countLine_lineIdx (s : State) :
    s.countLine.lineIdx = sat16Inc s.lineIdx := rfl
@[simp] theorem State.countLine_lbSlot (s : State) : s.countLine.lbSlot = !s.lbSlot := rfl
@[simp] theorem State.countLine_avail (s : State) : s.countLine.avail = s.avail := rfl
@[simp] theorem State.countLine_streaming (s : State) : s.countLine.streaming = s.streaming := rfl
@[simp] theorem State.countLine_seq (s : State) : s.countLine.seq = s.seq := rfl
@[simp] theorem State.countLine_sendCnt (s : State) : s.countLine.sendCnt = s.sendCnt := rfl
@[simp] theorem State.countLine_phase (s : State) : s.countLine.phase = s.phase := rfl
@[simp] theorem State.countLine_view (s : State) : s.countLine.view = s.view := rfl
@[simp] theorem State.countLine_viewStale (s : State) : s.countLine.viewStale = s.viewStale := rfl
@[simp] theorem State.countLine_cmdq (s : State) : s.countLine.cmdq = s.cmdq := rfl
@[simp] theorem State.countLine_txlog (s : State) : s.countLine.txlog = s.txlog := rfl
@[simp] theorem State.countLine_diaglog (s : State) : s.countLine.diaglog = s.diaglog := rfl
@[simp] theorem State.countLine_ret (s : State) : s.countLine.ret = s.ret := rfl
@[simp] theorem State.countLine_trace (s : State) : s.countLine.trace = s.trace := rfl
@[simp] theorem State.countLine_powerUps (s : State) : s.countLine.powerUps = s.powerUps := rfl
@[simp] theorem State.countLine_draws (s : State) : s.countLine.draws = s.draws := rfl
@[simp] theorem State.countLine_byteAt (s : State) (sp : Space) (k : Nat) :
    s.countLine.byteAt sp k = s.byteAt sp k := rfl
@[simp] theorem State.countLine_sizeOf (s : State) (sp : Space) :
    s.countLine.sizeOf sp = s.sizeOf sp := rfl

/-! ### `State.endFrame` -/

@[simp] theorem State.endFrame_par (s : State) : s.endFrame.par = s.par := rfl
@[simp] theorem State.endFrame_store (s : State) : s.endFrame.store = s.store := rfl
@[simp] theorem State.endFrame_ebLen (s : State) : s.endFrame.ebLen = s.ebLen := rfl
@[simp] theorem State.endFrame_handoff (s : State) : s.endFrame.handoff = s.handoff := rfl
@[simp] theorem State.endFrame_lineIdx (s : State) : s.endFrame.lineIdx = 0 := rfl
@[simp] theorem State.endFrame_lbSlot (s : State) : s.endFrame.lbSlot = false := rfl
@[simp] theorem State.endFrame_avail (s : State) : s.endFrame.avail = s.avail := rfl
@[simp] theorem State.endFrame_streaming (s : State) : s.endFrame.streaming = s.streaming := rfl
@[simp] theorem State.endFrame_seq (s : State) : s.endFrame.seq = s.seq := rfl
@[simp] theorem State.endFrame_sendCnt (s : State) : s.endFrame.sendCnt = s.sendCnt := rfl
@[simp] theorem State.endFrame_phase (s : State) : s.endFrame.phase = s.phase := rfl
@[simp] theorem State.endFrame_view (s : State) : s.endFrame.view = s.view := rfl
@[simp] theorem State.endFrame_viewStale (s : State) : s.endFrame.viewStale = s.viewStale := rfl
@[simp] theorem State.endFrame_cmdq (s : State) : s.endFrame.cmdq = s.cmdq := rfl
@[simp] theorem State.endFrame_txlog (s : State) : s.endFrame.txlog = s.txlog := rfl
@[simp] theorem State.endFrame_diaglog (s : State) : s.endFrame.diaglog = s.diaglog := rfl
@[simp] theorem State.endFrame_ret (s : State) : s.endFrame.ret = s.ret := rfl
@[simp] theorem State.endFrame_trace (s : State) : s.endFrame.trace = s.trace := rfl
@[simp] theorem State.endFrame_powerUps (s : State) : s.endFrame.powerUps = s.powerUps := rfl
@[simp] theorem State.endFrame_draws (s : State) : s.endFrame.draws = s.draws := rfl
@[simp] theorem State.endFrame_byteAt (s : State) (sp : Space) (k : Nat) :
    s.endFrame.byteAt sp k = s.byteAt sp k := rfl
@[simp] theorem State.endFrame_sizeOf (s : State) (sp : Space) :
    s.endFrame.sizeOf sp = s.sizeOf sp := rfl

/-! ### `State.advanceSeq` -/

@[simp] theorem State.advanceSeq_par (s : State) : s.advanceSeq.par = s.par := rfl
@[simp] theorem State.advanceSeq_store (s : State) : s.advanceSeq.store = s.store := rfl
@[simp] theorem State.advanceSeq_ebLen (s : State) : s.advanceSeq.ebLen = s.ebLen := rfl
@[simp] theorem State.advanceSeq_handoff (s : State) : s.advanceSeq.handoff = s.handoff := rfl
@[simp] theorem State.advanceSeq_lineIdx (s : State) : s.advanceSeq.lineIdx = s.lineIdx := rfl
@[simp] theorem State.advanceSeq_lbSlot (s : State) : s.advanceSeq.lbSlot = s.lbSlot := rfl
@[simp] theorem State.advanceSeq_avail (s : State) : s.advanceSeq.avail = s.avail := rfl
@[simp] theorem State.advanceSeq_streaming (s : State) : s.advanceSeq.streaming = s.streaming := rfl
@[simp] theorem State.advanceSeq_seq (s : State) : s.advanceSeq.seq = add8 s.seq 1 := rfl
@[simp] theorem State.advanceSeq_sendCnt (s : State) : s.advanceSeq.sendCnt = s.sendCnt := rfl
@[simp] theorem State.advanceSeq_phase (s : State) : s.advanceSeq.phase = s.phase := rfl
@[simp] theorem State.advanceSeq_view (s : State) : s.advanceSeq.view = s.view := rfl
@[simp] theorem State.advanceSeq_viewStale (s : State) : s.advanceSeq.viewStale = s.viewStale := rfl
@[simp] theorem State.advanceSeq_cmdq (s : State) : s.advanceSeq.cmdq = s.cmdq := rfl
@[simp] theorem State.advanceSeq_txlog (s : State) : s.advanceSeq.txlog = s.txlog := rfl
@[simp] theorem State.advanceSeq_diaglog (s : State) : s.advanceSeq.diaglog = s.diaglog := rfl
@[simp] theorem State.advanceSeq_ret (s : State) : s.advanceSeq.ret = s.ret := rfl
@[simp] theorem State.advanceSeq_trace (s : State) : s.advanceSeq.trace = s.trace := rfl
@[simp] theorem State.advanceSeq_powerUps (s : State) : s.advanceSeq.powerUps = s.powerUps := rfl
@[simp] theorem State.advanceSeq_draws (s : State) : s.advanceSeq.draws = s.draws := rfl
@[simp] theorem State.advanceSeq_byteAt (s : State) (sp : Space) (k : Nat) :
    s.advanceSeq.byteAt sp k = s.byteAt sp k := rfl
@[simp] theorem State.advanceSeq_sizeOf (s : State) (sp : Space) :
    s.advanceSeq.sizeOf sp = s.sizeOf sp := rfl

/-! ### `State.countSend` -/

@[simp] theorem State.countSend_par (s : State) : s.countSend.par = s.par := rfl
@[simp] theorem State.countSend_store (s : State) : s.countSend.store = s.store := rfl
@[simp] theorem State.countSend_ebLen (s : State) : s.countSend.ebLen = s.ebLen := rfl
@[simp] theorem State.countSend_handoff (s : State) : s.countSend.handoff = s.handoff := rfl
@[simp] theorem State.countSend_lineIdx (s : State) : s.countSend.lineIdx = s.lineIdx := rfl
@[simp] theorem State.countSend_lbSlot (s : State) : s.countSend.lbSlot = s.lbSlot := rfl
@[simp] theorem State.countSend_avail (s : State) : s.countSend.avail = s.avail := rfl
@[simp] theorem State.countSend_streaming (s : State) : s.countSend.streaming = s.streaming := rfl
@[simp] theorem State.countSend_seq (s : State) : s.countSend.seq = s.seq := rfl
@[simp] theorem State.countSend_sendCnt (s : State) : s.countSend.sendCnt = add32 s.sendCnt 1 := rfl
@[simp] theorem State.countSend_phase (s : State) : s.countSend.phase = s.phase := rfl
@[simp] theorem State.countSend_view (s : State) : s.countSend.view = s.view := rfl
@[simp] theorem State.countSend_viewStale (s : State) : s.countSend.viewStale = s.viewStale := rfl
@[simp] theorem State.countSend_cmdq (s : State) : s.countSend.cmdq = s.cmdq := rfl
@[simp] theorem State.countSend_txlog (s : State) : s.countSend.txlog = s.txlog := rfl
@[simp] theorem State.countSend_diaglog (s : State) : s.countSend.diaglog = s.diaglog := rfl
@[simp] theorem State.countSend_ret (s : State) : s.countSend.ret = s.ret := rfl
@[simp] theorem State.countSend_trace (s : State) : s.countSend.trace = s.trace := rfl
@[simp] theorem State.countSend_powerUps (s : State) : s.countSend.powerUps = s.powerUps := rfl
@[simp] theorem State.countSend_draws (s : State) : s.countSend.draws = s.draws := rfl
@[simp] theorem State.countSend_byteAt (s : State) (sp : Space) (k : Nat) :
    s.countSend.byteAt sp k = s.byteAt sp k := rfl
@[simp] theorem State.countSend_sizeOf (s : State) (sp : Space) :
    s.countSend.sizeOf sp = s.sizeOf sp := rfl

/-! ### `State.setEbLen` -/

@[simp] theorem State.setEbLen_par (s : State) (n : Nat) : (s.setEbLen n).par = s.par := rfl
@[simp] theorem State.setEbLen_store (s : State) (n : Nat) : (s.setEbLen n).store = s.store := rfl
@[simp] theorem State.setEbLen_ebLen (s : State) (n : Nat) : (s.setEbLen n).ebLen = n := rfl
@[simp] theorem State.setEbLen_handoff (s : State) (n : Nat) :
    (s.setEbLen n).handoff = s.handoff := rfl
@[simp] theorem State.setEbLen_lineIdx (s : State) (n : Nat) :
    (s.setEbLen n).lineIdx = s.lineIdx := rfl
@[simp] theorem State.setEbLen_lbSlot (s : State) (n : Nat) :
    (s.setEbLen n).lbSlot = s.lbSlot := rfl
@[simp] theorem State.setEbLen_avail (s : State) (n : Nat) : (s.setEbLen n).avail = s.avail := rfl
@[simp] theorem State.setEbLen_streaming (s : State) (n : Nat) :
    (s.setEbLen n).streaming = s.streaming := rfl
@[simp] theorem State.setEbLen_seq (s : State) (n : Nat) : (s.setEbLen n).seq = s.seq := rfl
@[simp] theorem State.setEbLen_sendCnt (s : State) (n : Nat) :
    (s.setEbLen n).sendCnt = s.sendCnt := rfl
@[simp] theorem State.setEbLen_phase (s : State) (n : Nat) : (s.setEbLen n).phase = s.phase := rfl
@[simp] theorem State.setEbLen_view (s : State) (n : Nat) : (s.setEbLen n).view = s.view := rfl
@[simp] theorem State.setEbLen_viewStale (s : State) (n : Nat) :
    (s.setEbLen n).viewStale = s.viewStale := rfl
@[simp] theorem State.setEbLen_cmdq (s : State) (n : Nat) : (s.setEbLen n).cmdq = s.cmdq := rfl
@[simp] theorem State.setEbLen_txlog (s : State) (n : Nat) : (s.setEbLen n).txlog = s.txlog := rfl
@[simp] theorem State.setEbLen_diaglog (s : State) (n : Nat) :
    (s.setEbLen n).diaglog = s.diaglog := rfl
@[simp] theorem State.setEbLen_ret (s : State) (n : Nat) : (s.setEbLen n).ret = s.ret := rfl
@[simp] theorem State.setEbLen_trace (s : State) (n : Nat) : (s.setEbLen n).trace = s.trace := rfl
@[simp] theorem State.setEbLen_powerUps (s : State) (n : Nat) :
    (s.setEbLen n).powerUps = s.powerUps := rfl
@[simp] theorem State.setEbLen_draws (s : State) (n : Nat) : (s.setEbLen n).draws = s.draws := rfl
@[simp] theorem State.setEbLen_byteAt (s : State) (n : Nat) (sp : Space) (k : Nat) :
    (s.setEbLen n).byteAt sp k = s.byteAt sp k := rfl
@[simp] theorem State.setEbLen_sizeOf (s : State) (n : Nat) (sp : Space) :
    (s.setEbLen n).sizeOf sp = s.sizeOf sp := rfl

/-! ### `State.txAppend` -/

@[simp] theorem State.txAppend_par (s : State) (bs : List Byte) : (s.txAppend bs).par = s.par := rfl
@[simp] theorem State.txAppend_store (s : State) (bs : List Byte) :
    (s.txAppend bs).store = s.store := rfl
@[simp] theorem State.txAppend_ebLen (s : State) (bs : List Byte) :
    (s.txAppend bs).ebLen = s.ebLen := rfl
@[simp] theorem State.txAppend_handoff (s : State) (bs : List Byte) :
    (s.txAppend bs).handoff = s.handoff := rfl
@[simp] theorem State.txAppend_lineIdx (s : State) (bs : List Byte) :
    (s.txAppend bs).lineIdx = s.lineIdx := rfl
@[simp] theorem State.txAppend_lbSlot (s : State) (bs : List Byte) :
    (s.txAppend bs).lbSlot = s.lbSlot := rfl
@[simp] theorem State.txAppend_avail (s : State) (bs : List Byte) :
    (s.txAppend bs).avail = s.avail := rfl
@[simp] theorem State.txAppend_streaming (s : State) (bs : List Byte) :
    (s.txAppend bs).streaming = s.streaming := rfl
@[simp] theorem State.txAppend_seq (s : State) (bs : List Byte) : (s.txAppend bs).seq = s.seq := rfl
@[simp] theorem State.txAppend_sendCnt (s : State) (bs : List Byte) :
    (s.txAppend bs).sendCnt = s.sendCnt := rfl
@[simp] theorem State.txAppend_phase (s : State) (bs : List Byte) :
    (s.txAppend bs).phase = s.phase := rfl
@[simp] theorem State.txAppend_view (s : State) (bs : List Byte) :
    (s.txAppend bs).view = s.view := rfl
@[simp] theorem State.txAppend_viewStale (s : State) (bs : List Byte) :
    (s.txAppend bs).viewStale = s.viewStale := rfl
@[simp] theorem State.txAppend_cmdq (s : State) (bs : List Byte) :
    (s.txAppend bs).cmdq = s.cmdq := rfl
@[simp] theorem State.txAppend_txlog (s : State) (bs : List Byte) :
    (s.txAppend bs).txlog = s.txlog ++ bs := rfl
@[simp] theorem State.txAppend_diaglog (s : State) (bs : List Byte) :
    (s.txAppend bs).diaglog = s.diaglog := rfl
@[simp] theorem State.txAppend_ret (s : State) (bs : List Byte) : (s.txAppend bs).ret = s.ret := rfl
@[simp] theorem State.txAppend_trace (s : State) (bs : List Byte) :
    (s.txAppend bs).trace = s.trace := rfl
@[simp] theorem State.txAppend_powerUps (s : State) (bs : List Byte) :
    (s.txAppend bs).powerUps = s.powerUps := rfl
@[simp] theorem State.txAppend_draws (s : State) (bs : List Byte) :
    (s.txAppend bs).draws = s.draws := rfl
@[simp] theorem State.txAppend_byteAt (s : State) (bs : List Byte) (sp : Space) (k : Nat) :
    (s.txAppend bs).byteAt sp k = s.byteAt sp k := rfl
@[simp] theorem State.txAppend_sizeOf (s : State) (bs : List Byte) (sp : Space) :
    (s.txAppend bs).sizeOf sp = s.sizeOf sp := rfl

/-! ### `State.pushCmd` -/

@[simp] theorem State.pushCmd_par (s : State) (b : Byte) : (s.pushCmd b).par = s.par := rfl
@[simp] theorem State.pushCmd_store (s : State) (b : Byte) : (s.pushCmd b).store = s.store := rfl
@[simp] theorem State.pushCmd_ebLen (s : State) (b : Byte) : (s.pushCmd b).ebLen = s.ebLen := rfl
@[simp] theorem State.pushCmd_handoff (s : State) (b : Byte) :
    (s.pushCmd b).handoff = s.handoff := rfl
@[simp] theorem State.pushCmd_lineIdx (s : State) (b : Byte) :
    (s.pushCmd b).lineIdx = s.lineIdx := rfl
@[simp] theorem State.pushCmd_lbSlot (s : State) (b : Byte) : (s.pushCmd b).lbSlot = s.lbSlot := rfl
@[simp] theorem State.pushCmd_avail (s : State) (b : Byte) : (s.pushCmd b).avail = s.avail := rfl
@[simp] theorem State.pushCmd_streaming (s : State) (b : Byte) :
    (s.pushCmd b).streaming = s.streaming := rfl
@[simp] theorem State.pushCmd_seq (s : State) (b : Byte) : (s.pushCmd b).seq = s.seq := rfl
@[simp] theorem State.pushCmd_sendCnt (s : State) (b : Byte) :
    (s.pushCmd b).sendCnt = s.sendCnt := rfl
@[simp] theorem State.pushCmd_phase (s : State) (b : Byte) : (s.pushCmd b).phase = s.phase := rfl
@[simp] theorem State.pushCmd_view (s : State) (b : Byte) : (s.pushCmd b).view = s.view := rfl
@[simp] theorem State.pushCmd_viewStale (s : State) (b : Byte) :
    (s.pushCmd b).viewStale = s.viewStale := rfl
@[simp] theorem State.pushCmd_cmdq (s : State) (b : Byte) :
    (s.pushCmd b).cmdq = s.cmdq ++ [b] := rfl
@[simp] theorem State.pushCmd_txlog (s : State) (b : Byte) : (s.pushCmd b).txlog = s.txlog := rfl
@[simp] theorem State.pushCmd_diaglog (s : State) (b : Byte) :
    (s.pushCmd b).diaglog = s.diaglog := rfl
@[simp] theorem State.pushCmd_ret (s : State) (b : Byte) : (s.pushCmd b).ret = s.ret := rfl
@[simp] theorem State.pushCmd_trace (s : State) (b : Byte) : (s.pushCmd b).trace = s.trace := rfl
@[simp] theorem State.pushCmd_powerUps (s : State) (b : Byte) :
    (s.pushCmd b).powerUps = s.powerUps := rfl
@[simp] theorem State.pushCmd_draws (s : State) (b : Byte) : (s.pushCmd b).draws = s.draws := rfl
@[simp] theorem State.pushCmd_byteAt (s : State) (b : Byte) (sp : Space) (k : Nat) :
    (s.pushCmd b).byteAt sp k = s.byteAt sp k := rfl
@[simp] theorem State.pushCmd_sizeOf (s : State) (b : Byte) (sp : Space) :
    (s.pushCmd b).sizeOf sp = s.sizeOf sp := rfl

/-! ### `State.setCmdq` -/

@[simp] theorem State.setCmdq_par (s : State) (q : List Byte) : (s.setCmdq q).par = s.par := rfl
@[simp] theorem State.setCmdq_store (s : State) (q : List Byte) :
    (s.setCmdq q).store = s.store := rfl
@[simp] theorem State.setCmdq_ebLen (s : State) (q : List Byte) :
    (s.setCmdq q).ebLen = s.ebLen := rfl
@[simp] theorem State.setCmdq_handoff (s : State) (q : List Byte) :
    (s.setCmdq q).handoff = s.handoff := rfl
@[simp] theorem State.setCmdq_lineIdx (s : State) (q : List Byte) :
    (s.setCmdq q).lineIdx = s.lineIdx := rfl
@[simp] theorem State.setCmdq_lbSlot (s : State) (q : List Byte) :
    (s.setCmdq q).lbSlot = s.lbSlot := rfl
@[simp] theorem State.setCmdq_avail (s : State) (q : List Byte) :
    (s.setCmdq q).avail = s.avail := rfl
@[simp] theorem State.setCmdq_streaming (s : State) (q : List Byte) :
    (s.setCmdq q).streaming = s.streaming := rfl
@[simp] theorem State.setCmdq_seq (s : State) (q : List Byte) : (s.setCmdq q).seq = s.seq := rfl
@[simp] theorem State.setCmdq_sendCnt (s : State) (q : List Byte) :
    (s.setCmdq q).sendCnt = s.sendCnt := rfl
@[simp] theorem State.setCmdq_phase (s : State) (q : List Byte) :
    (s.setCmdq q).phase = s.phase := rfl
@[simp] theorem State.setCmdq_view (s : State) (q : List Byte) : (s.setCmdq q).view = s.view := rfl
@[simp] theorem State.setCmdq_viewStale (s : State) (q : List Byte) :
    (s.setCmdq q).viewStale = s.viewStale := rfl
@[simp] theorem State.setCmdq_cmdq (s : State) (q : List Byte) : (s.setCmdq q).cmdq = q := rfl
@[simp] theorem State.setCmdq_txlog (s : State) (q : List Byte) :
    (s.setCmdq q).txlog = s.txlog := rfl
@[simp] theorem State.setCmdq_diaglog (s : State) (q : List Byte) :
    (s.setCmdq q).diaglog = s.diaglog := rfl
@[simp] theorem State.setCmdq_ret (s : State) (q : List Byte) : (s.setCmdq q).ret = s.ret := rfl
@[simp] theorem State.setCmdq_trace (s : State) (q : List Byte) :
    (s.setCmdq q).trace = s.trace := rfl
@[simp] theorem State.setCmdq_powerUps (s : State) (q : List Byte) :
    (s.setCmdq q).powerUps = s.powerUps := rfl
@[simp] theorem State.setCmdq_draws (s : State) (q : List Byte) :
    (s.setCmdq q).draws = s.draws := rfl
@[simp] theorem State.setCmdq_byteAt (s : State) (q : List Byte) (sp : Space) (k : Nat) :
    (s.setCmdq q).byteAt sp k = s.byteAt sp k := rfl
@[simp] theorem State.setCmdq_sizeOf (s : State) (q : List Byte) (sp : Space) :
    (s.setCmdq q).sizeOf sp = s.sizeOf sp := rfl

/-! ### `State.setTrace` -/

@[simp] theorem State.setTrace_par (s : State) (t : List Byte) : (s.setTrace t).par = s.par := rfl
@[simp] theorem State.setTrace_store (s : State) (t : List Byte) :
    (s.setTrace t).store = s.store := rfl
@[simp] theorem State.setTrace_ebLen (s : State) (t : List Byte) :
    (s.setTrace t).ebLen = s.ebLen := rfl
@[simp] theorem State.setTrace_handoff (s : State) (t : List Byte) :
    (s.setTrace t).handoff = s.handoff := rfl
@[simp] theorem State.setTrace_lineIdx (s : State) (t : List Byte) :
    (s.setTrace t).lineIdx = s.lineIdx := rfl
@[simp] theorem State.setTrace_lbSlot (s : State) (t : List Byte) :
    (s.setTrace t).lbSlot = s.lbSlot := rfl
@[simp] theorem State.setTrace_avail (s : State) (t : List Byte) :
    (s.setTrace t).avail = s.avail := rfl
@[simp] theorem State.setTrace_streaming (s : State) (t : List Byte) :
    (s.setTrace t).streaming = s.streaming := rfl
@[simp] theorem State.setTrace_seq (s : State) (t : List Byte) : (s.setTrace t).seq = s.seq := rfl
@[simp] theorem State.setTrace_sendCnt (s : State) (t : List Byte) :
    (s.setTrace t).sendCnt = s.sendCnt := rfl
@[simp] theorem State.setTrace_phase (s : State) (t : List Byte) :
    (s.setTrace t).phase = s.phase := rfl
@[simp] theorem State.setTrace_view (s : State) (t : List Byte) :
    (s.setTrace t).view = s.view := rfl
@[simp] theorem State.setTrace_viewStale (s : State) (t : List Byte) :
    (s.setTrace t).viewStale = s.viewStale := rfl
@[simp] theorem State.setTrace_cmdq (s : State) (t : List Byte) :
    (s.setTrace t).cmdq = s.cmdq := rfl
@[simp] theorem State.setTrace_txlog (s : State) (t : List Byte) :
    (s.setTrace t).txlog = s.txlog := rfl
@[simp] theorem State.setTrace_diaglog (s : State) (t : List Byte) :
    (s.setTrace t).diaglog = s.diaglog := rfl
@[simp] theorem State.setTrace_ret (s : State) (t : List Byte) : (s.setTrace t).ret = s.ret := rfl
@[simp] theorem State.setTrace_trace (s : State) (t : List Byte) : (s.setTrace t).trace = t := rfl
@[simp] theorem State.setTrace_powerUps (s : State) (t : List Byte) :
    (s.setTrace t).powerUps = s.powerUps := rfl
@[simp] theorem State.setTrace_draws (s : State) (t : List Byte) :
    (s.setTrace t).draws = s.draws := rfl
@[simp] theorem State.setTrace_byteAt (s : State) (t : List Byte) (sp : Space) (k : Nat) :
    (s.setTrace t).byteAt sp k = s.byteAt sp k := rfl
@[simp] theorem State.setTrace_sizeOf (s : State) (t : List Byte) (sp : Space) :
    (s.setTrace t).sizeOf sp = s.sizeOf sp := rfl

/-! ### `State.drawOnce` -/

@[simp] theorem State.drawOnce_par (s : State) : s.drawOnce.par = s.par := rfl
@[simp] theorem State.drawOnce_store (s : State) : s.drawOnce.store = s.store := rfl
@[simp] theorem State.drawOnce_ebLen (s : State) : s.drawOnce.ebLen = s.ebLen := rfl
@[simp] theorem State.drawOnce_handoff (s : State) : s.drawOnce.handoff = s.handoff := rfl
@[simp] theorem State.drawOnce_lineIdx (s : State) : s.drawOnce.lineIdx = s.lineIdx := rfl
@[simp] theorem State.drawOnce_lbSlot (s : State) : s.drawOnce.lbSlot = s.lbSlot := rfl
@[simp] theorem State.drawOnce_avail (s : State) : s.drawOnce.avail = s.avail := rfl
@[simp] theorem State.drawOnce_streaming (s : State) : s.drawOnce.streaming = s.streaming := rfl
@[simp] theorem State.drawOnce_seq (s : State) : s.drawOnce.seq = s.seq := rfl
@[simp] theorem State.drawOnce_sendCnt (s : State) : s.drawOnce.sendCnt = s.sendCnt := rfl
@[simp] theorem State.drawOnce_phase (s : State) : s.drawOnce.phase = s.phase := rfl
@[simp] theorem State.drawOnce_view (s : State) : s.drawOnce.view = s.view := rfl
@[simp] theorem State.drawOnce_viewStale (s : State) : s.drawOnce.viewStale = s.viewStale := rfl
@[simp] theorem State.drawOnce_cmdq (s : State) : s.drawOnce.cmdq = s.cmdq := rfl
@[simp] theorem State.drawOnce_txlog (s : State) : s.drawOnce.txlog = s.txlog := rfl
@[simp] theorem State.drawOnce_diaglog (s : State) : s.drawOnce.diaglog = s.diaglog := rfl
@[simp] theorem State.drawOnce_ret (s : State) : s.drawOnce.ret = s.ret := rfl
@[simp] theorem State.drawOnce_trace (s : State) : s.drawOnce.trace = s.trace := rfl
@[simp] theorem State.drawOnce_powerUps (s : State) : s.drawOnce.powerUps = s.powerUps := rfl
@[simp] theorem State.drawOnce_draws (s : State) : s.drawOnce.draws = s.draws + 1 := rfl
@[simp] theorem State.drawOnce_byteAt (s : State) (sp : Space) (k : Nat) :
    s.drawOnce.byteAt sp k = s.byteAt sp k := rfl
@[simp] theorem State.drawOnce_sizeOf (s : State) (sp : Space) :
    s.drawOnce.sizeOf sp = s.sizeOf sp := rfl

/-! ### `State.goto` -/

@[simp] theorem State.goto_par (s : State) (p : Phase) : (s.goto p).par = s.par := rfl
@[simp] theorem State.goto_store (s : State) (p : Phase) : (s.goto p).store = s.store := rfl
@[simp] theorem State.goto_ebLen (s : State) (p : Phase) : (s.goto p).ebLen = s.ebLen := rfl
@[simp] theorem State.goto_handoff (s : State) (p : Phase) : (s.goto p).handoff = s.handoff := rfl
@[simp] theorem State.goto_lineIdx (s : State) (p : Phase) : (s.goto p).lineIdx = s.lineIdx := rfl
@[simp] theorem State.goto_lbSlot (s : State) (p : Phase) : (s.goto p).lbSlot = s.lbSlot := rfl
@[simp] theorem State.goto_avail (s : State) (p : Phase) : (s.goto p).avail = s.avail := rfl
@[simp] theorem State.goto_streaming (s : State) (p : Phase) :
    (s.goto p).streaming = s.streaming := rfl
@[simp] theorem State.goto_seq (s : State) (p : Phase) : (s.goto p).seq = s.seq := rfl
@[simp] theorem State.goto_sendCnt (s : State) (p : Phase) : (s.goto p).sendCnt = s.sendCnt := rfl
@[simp] theorem State.goto_phase (s : State) (p : Phase) : (s.goto p).phase = p := rfl
@[simp] theorem State.goto_view (s : State) (p : Phase) : (s.goto p).view = s.view := rfl
@[simp] theorem State.goto_viewStale (s : State) (p : Phase) :
    (s.goto p).viewStale = s.viewStale := rfl
@[simp] theorem State.goto_cmdq (s : State) (p : Phase) : (s.goto p).cmdq = s.cmdq := rfl
@[simp] theorem State.goto_txlog (s : State) (p : Phase) : (s.goto p).txlog = s.txlog := rfl
@[simp] theorem State.goto_diaglog (s : State) (p : Phase) : (s.goto p).diaglog = s.diaglog := rfl
@[simp] theorem State.goto_ret (s : State) (p : Phase) : (s.goto p).ret = s.ret := rfl
@[simp] theorem State.goto_trace (s : State) (p : Phase) : (s.goto p).trace = s.trace := rfl
@[simp] theorem State.goto_powerUps (s : State) (p : Phase) :
    (s.goto p).powerUps = s.powerUps := rfl
@[simp] theorem State.goto_draws (s : State) (p : Phase) : (s.goto p).draws = s.draws := rfl
@[simp] theorem State.goto_byteAt (s : State) (p : Phase) (sp : Space) (k : Nat) :
    (s.goto p).byteAt sp k = s.byteAt sp k := rfl
@[simp] theorem State.goto_sizeOf (s : State) (p : Phase) (sp : Space) :
    (s.goto p).sizeOf sp = s.sizeOf sp := rfl

/-! ### `State.swapBuffers` -/

@[simp] theorem State.swapBuffers_par (s : State) : s.swapBuffers.par = s.par := rfl
@[simp] theorem State.swapBuffers_store (s : State) : s.swapBuffers.store = s.store := rfl
@[simp] theorem State.swapBuffers_ebLen (s : State) : s.swapBuffers.ebLen = s.ebLen := rfl
@[simp] theorem State.swapBuffers_handoff (s : State) :
    s.swapBuffers.handoff = { sel := !s.handoff.sel, rdy := true } := rfl
@[simp] theorem State.swapBuffers_lineIdx (s : State) : s.swapBuffers.lineIdx = s.lineIdx := rfl
@[simp] theorem State.swapBuffers_lbSlot (s : State) : s.swapBuffers.lbSlot = s.lbSlot := rfl
@[simp] theorem State.swapBuffers_avail (s : State) : s.swapBuffers.avail = s.avail := rfl
@[simp] theorem State.swapBuffers_streaming (s : State) :
    s.swapBuffers.streaming = s.streaming := rfl
@[simp] theorem State.swapBuffers_seq (s : State) : s.swapBuffers.seq = s.seq := rfl
@[simp] theorem State.swapBuffers_sendCnt (s : State) : s.swapBuffers.sendCnt = s.sendCnt := rfl
@[simp] theorem State.swapBuffers_phase (s : State) : s.swapBuffers.phase = s.phase := rfl
@[simp] theorem State.swapBuffers_view (s : State) : s.swapBuffers.view = s.view := rfl
@[simp] theorem State.swapBuffers_viewStale (s : State) :
    s.swapBuffers.viewStale = if s.view = none then s.viewStale else true := rfl
@[simp] theorem State.swapBuffers_cmdq (s : State) : s.swapBuffers.cmdq = s.cmdq := rfl
@[simp] theorem State.swapBuffers_txlog (s : State) : s.swapBuffers.txlog = s.txlog := rfl
@[simp] theorem State.swapBuffers_diaglog (s : State) : s.swapBuffers.diaglog = s.diaglog := rfl
@[simp] theorem State.swapBuffers_ret (s : State) : s.swapBuffers.ret = s.ret := rfl
@[simp] theorem State.swapBuffers_trace (s : State) : s.swapBuffers.trace = s.trace := rfl
@[simp] theorem State.swapBuffers_powerUps (s : State) : s.swapBuffers.powerUps = s.powerUps := rfl
@[simp] theorem State.swapBuffers_draws (s : State) : s.swapBuffers.draws = s.draws := rfl
@[simp] theorem State.swapBuffers_byteAt (s : State) (sp : Space) (k : Nat) :
    s.swapBuffers.byteAt sp k = s.byteAt sp k := rfl
@[simp] theorem State.swapBuffers_sizeOf (s : State) (sp : Space) :
    s.swapBuffers.sizeOf sp = s.sizeOf sp := rfl

/-! ### `State.takeView` -/

@[simp] theorem State.takeView_par (s : State) : s.takeView.par = s.par := rfl
@[simp] theorem State.takeView_store (s : State) : s.takeView.store = s.store := rfl
@[simp] theorem State.takeView_ebLen (s : State) : s.takeView.ebLen = s.ebLen := rfl
@[simp] theorem State.takeView_handoff (s : State) :
    s.takeView.handoff = { sel := s.handoff.sel, rdy := false } := rfl
@[simp] theorem State.takeView_lineIdx (s : State) : s.takeView.lineIdx = s.lineIdx := rfl
@[simp] theorem State.takeView_lbSlot (s : State) : s.takeView.lbSlot = s.lbSlot := rfl
@[simp] theorem State.takeView_avail (s : State) : s.takeView.avail = s.avail := rfl
@[simp] theorem State.takeView_streaming (s : State) : s.takeView.streaming = s.streaming := rfl
@[simp] theorem State.takeView_seq (s : State) : s.takeView.seq = s.seq := rfl
@[simp] theorem State.takeView_sendCnt (s : State) : s.takeView.sendCnt = s.sendCnt := rfl
@[simp] theorem State.takeView_phase (s : State) : s.takeView.phase = s.phase := rfl
@[simp] theorem State.takeView_view (s : State) : s.takeView.view = some (!s.handoff.sel) := rfl
@[simp] theorem State.takeView_viewStale (s : State) : s.takeView.viewStale = false := rfl
@[simp] theorem State.takeView_cmdq (s : State) : s.takeView.cmdq = s.cmdq := rfl
@[simp] theorem State.takeView_txlog (s : State) : s.takeView.txlog = s.txlog := rfl
@[simp] theorem State.takeView_diaglog (s : State) : s.takeView.diaglog = s.diaglog := rfl
@[simp] theorem State.takeView_ret (s : State) : s.takeView.ret = s.ret := rfl
@[simp] theorem State.takeView_trace (s : State) : s.takeView.trace = s.trace := rfl
@[simp] theorem State.takeView_powerUps (s : State) : s.takeView.powerUps = s.powerUps := rfl
@[simp] theorem State.takeView_draws (s : State) : s.takeView.draws = s.draws := rfl
@[simp] theorem State.takeView_byteAt (s : State) (sp : Space) (k : Nat) :
    s.takeView.byteAt sp k = s.byteAt sp k := rfl
@[simp] theorem State.takeView_sizeOf (s : State) (sp : Space) :
    s.takeView.sizeOf sp = s.sizeOf sp := rfl

/-! ### `State.releaseView` -/

@[simp] theorem State.releaseView_par (s : State) : s.releaseView.par = s.par := rfl
@[simp] theorem State.releaseView_store (s : State) : s.releaseView.store = s.store := rfl
@[simp] theorem State.releaseView_ebLen (s : State) : s.releaseView.ebLen = s.ebLen := rfl
@[simp] theorem State.releaseView_handoff (s : State) : s.releaseView.handoff = s.handoff := rfl
@[simp] theorem State.releaseView_lineIdx (s : State) : s.releaseView.lineIdx = s.lineIdx := rfl
@[simp] theorem State.releaseView_lbSlot (s : State) : s.releaseView.lbSlot = s.lbSlot := rfl
@[simp] theorem State.releaseView_avail (s : State) : s.releaseView.avail = s.avail := rfl
@[simp] theorem State.releaseView_streaming (s : State) :
    s.releaseView.streaming = s.streaming := rfl
@[simp] theorem State.releaseView_seq (s : State) : s.releaseView.seq = s.seq := rfl
@[simp] theorem State.releaseView_sendCnt (s : State) : s.releaseView.sendCnt = s.sendCnt := rfl
@[simp] theorem State.releaseView_phase (s : State) : s.releaseView.phase = s.phase := rfl
@[simp] theorem State.releaseView_view (s : State) : s.releaseView.view = none := rfl
@[simp] theorem State.releaseView_viewStale (s : State) : s.releaseView.viewStale = false := rfl
@[simp] theorem State.releaseView_cmdq (s : State) : s.releaseView.cmdq = s.cmdq := rfl
@[simp] theorem State.releaseView_txlog (s : State) : s.releaseView.txlog = s.txlog := rfl
@[simp] theorem State.releaseView_diaglog (s : State) : s.releaseView.diaglog = s.diaglog := rfl
@[simp] theorem State.releaseView_ret (s : State) : s.releaseView.ret = s.ret := rfl
@[simp] theorem State.releaseView_trace (s : State) : s.releaseView.trace = s.trace := rfl
@[simp] theorem State.releaseView_powerUps (s : State) : s.releaseView.powerUps = s.powerUps := rfl
@[simp] theorem State.releaseView_draws (s : State) : s.releaseView.draws = s.draws := rfl
@[simp] theorem State.releaseView_byteAt (s : State) (sp : Space) (k : Nat) :
    s.releaseView.byteAt sp k = s.byteAt sp k := rfl
@[simp] theorem State.releaseView_sizeOf (s : State) (sp : Space) :
    s.releaseView.sizeOf sp = s.sizeOf sp := rfl

/-! ### `State.setAvail` -/

@[simp] theorem State.setAvail_par (s : State) (b : Bool) : (s.setAvail b).par = s.par := rfl
@[simp] theorem State.setAvail_store (s : State) (b : Bool) : (s.setAvail b).store = s.store := rfl
@[simp] theorem State.setAvail_ebLen (s : State) (b : Bool) : (s.setAvail b).ebLen = s.ebLen := rfl
@[simp] theorem State.setAvail_handoff (s : State) (b : Bool) :
    (s.setAvail b).handoff = s.handoff := rfl
@[simp] theorem State.setAvail_lineIdx (s : State) (b : Bool) :
    (s.setAvail b).lineIdx = s.lineIdx := rfl
@[simp] theorem State.setAvail_lbSlot (s : State) (b : Bool) :
    (s.setAvail b).lbSlot = s.lbSlot := rfl
@[simp] theorem State.setAvail_avail (s : State) (b : Bool) : (s.setAvail b).avail = b := rfl
@[simp] theorem State.setAvail_streaming (s : State) (b : Bool) :
    (s.setAvail b).streaming = s.streaming := rfl
@[simp] theorem State.setAvail_seq (s : State) (b : Bool) : (s.setAvail b).seq = s.seq := rfl
@[simp] theorem State.setAvail_sendCnt (s : State) (b : Bool) :
    (s.setAvail b).sendCnt = s.sendCnt := rfl
@[simp] theorem State.setAvail_phase (s : State) (b : Bool) : (s.setAvail b).phase = s.phase := rfl
@[simp] theorem State.setAvail_view (s : State) (b : Bool) : (s.setAvail b).view = s.view := rfl
@[simp] theorem State.setAvail_viewStale (s : State) (b : Bool) :
    (s.setAvail b).viewStale = s.viewStale := rfl
@[simp] theorem State.setAvail_cmdq (s : State) (b : Bool) : (s.setAvail b).cmdq = s.cmdq := rfl
@[simp] theorem State.setAvail_txlog (s : State) (b : Bool) : (s.setAvail b).txlog = s.txlog := rfl
@[simp] theorem State.setAvail_diaglog (s : State) (b : Bool) :
    (s.setAvail b).diaglog = s.diaglog := rfl
@[simp] theorem State.setAvail_ret (s : State) (b : Bool) : (s.setAvail b).ret = s.ret := rfl
@[simp] theorem State.setAvail_trace (s : State) (b : Bool) : (s.setAvail b).trace = s.trace := rfl
@[simp] theorem State.setAvail_powerUps (s : State) (b : Bool) :
    (s.setAvail b).powerUps = s.powerUps := rfl
@[simp] theorem State.setAvail_draws (s : State) (b : Bool) : (s.setAvail b).draws = s.draws := rfl
@[simp] theorem State.setAvail_byteAt (s : State) (b : Bool) (sp : Space) (k : Nat) :
    (s.setAvail b).byteAt sp k = s.byteAt sp k := rfl
@[simp] theorem State.setAvail_sizeOf (s : State) (b : Bool) (sp : Space) :
    (s.setAvail b).sizeOf sp = s.sizeOf sp := rfl

/-! ### `State.startStreaming` -/

@[simp] theorem State.startStreaming_par (s : State) : s.startStreaming.par = s.par := rfl
@[simp] theorem State.startStreaming_store (s : State) : s.startStreaming.store = s.store := rfl
@[simp] theorem State.startStreaming_ebLen (s : State) : s.startStreaming.ebLen = s.ebLen := rfl
@[simp] theorem State.startStreaming_handoff (s : State) :
    s.startStreaming.handoff = s.handoff := rfl
@[simp] theorem State.startStreaming_lineIdx (s : State) :
    s.startStreaming.lineIdx = s.lineIdx := rfl
@[simp] theorem State.startStreaming_lbSlot (s : State) : s.startStreaming.lbSlot = s.lbSlot := rfl
@[simp] theorem State.startStreaming_avail (s : State) : s.startStreaming.avail = s.avail := rfl
@[simp] theorem State.startStreaming_streaming (s : State) :
    s.startStreaming.streaming = true := rfl
@[simp] theorem State.startStreaming_seq (s : State) : s.startStreaming.seq = s.seq := rfl
@[simp] theorem State.startStreaming_sendCnt (s : State) : s.startStreaming.sendCnt = 0 := rfl
@[simp] theorem State.startStreaming_phase (s : State) : s.startStreaming.phase = s.phase := rfl
@[simp] theorem State.startStreaming_view (s : State) : s.startStreaming.view = s.view := rfl
@[simp] theorem State.startStreaming_viewStale (s : State) :
    s.startStreaming.viewStale = s.viewStale := rfl
@[simp] theorem State.startStreaming_cmdq (s : State) : s.startStreaming.cmdq = s.cmdq := rfl
@[simp] theorem State.startStreaming_txlog (s : State) : s.startStreaming.txlog = s.txlog := rfl
@[simp] theorem State.startStreaming_diaglog (s : State) :
    s.startStreaming.diaglog = s.diaglog := rfl
@[simp] theorem State.startStreaming_ret (s : State) : s.startStreaming.ret = s.ret := rfl
@[simp] theorem State.startStreaming_trace (s : State) : s.startStreaming.trace = s.trace := rfl
@[simp] theorem State.startStreaming_powerUps (s : State) :
    s.startStreaming.powerUps = s.powerUps := rfl
@[simp] theorem State.startStreaming_draws (s : State) : s.startStreaming.draws = s.draws := rfl
@[simp] theorem State.startStreaming_byteAt (s : State) (sp : Space) (k : Nat) :
    s.startStreaming.byteAt sp k = s.byteAt sp k := rfl
@[simp] theorem State.startStreaming_sizeOf (s : State) (sp : Space) :
    s.startStreaming.sizeOf sp = s.sizeOf sp := rfl

/-! ### `State.stopStreaming` -/

@[simp] theorem State.stopStreaming_par (s : State) : s.stopStreaming.par = s.par := rfl
@[simp] theorem State.stopStreaming_store (s : State) : s.stopStreaming.store = s.store := rfl
@[simp] theorem State.stopStreaming_ebLen (s : State) : s.stopStreaming.ebLen = s.ebLen := rfl
@[simp] theorem State.stopStreaming_handoff (s : State) : s.stopStreaming.handoff = s.handoff := rfl
@[simp] theorem State.stopStreaming_lineIdx (s : State) : s.stopStreaming.lineIdx = s.lineIdx := rfl
@[simp] theorem State.stopStreaming_lbSlot (s : State) : s.stopStreaming.lbSlot = s.lbSlot := rfl
@[simp] theorem State.stopStreaming_avail (s : State) : s.stopStreaming.avail = s.avail := rfl
@[simp] theorem State.stopStreaming_streaming (s : State) : s.stopStreaming.streaming = false := rfl
@[simp] theorem State.stopStreaming_seq (s : State) : s.stopStreaming.seq = s.seq := rfl
@[simp] theorem State.stopStreaming_sendCnt (s : State) : s.stopStreaming.sendCnt = s.sendCnt := rfl
@[simp] theorem State.stopStreaming_phase (s : State) : s.stopStreaming.phase = s.phase := rfl
@[simp] theorem State.stopStreaming_view (s : State) : s.stopStreaming.view = s.view := rfl
@[simp] theorem State.stopStreaming_viewStale (s : State) :
    s.stopStreaming.viewStale = s.viewStale := rfl
@[simp] theorem State.stopStreaming_cmdq (s : State) : s.stopStreaming.cmdq = s.cmdq := rfl
@[simp] theorem State.stopStreaming_txlog (s : State) : s.stopStreaming.txlog = s.txlog := rfl
@[simp] theorem State.stopStreaming_diaglog (s : State) : s.stopStreaming.diaglog = s.diaglog := rfl
@[simp] theorem State.stopStreaming_ret (s : State) : s.stopStreaming.ret = s.ret := rfl
@[simp] theorem State.stopStreaming_trace (s : State) : s.stopStreaming.trace = s.trace := rfl
@[simp] theorem State.stopStreaming_powerUps (s : State) :
    s.stopStreaming.powerUps = s.powerUps := rfl
@[simp] theorem State.stopStreaming_draws (s : State) : s.stopStreaming.draws = s.draws := rfl
@[simp] theorem State.stopStreaming_byteAt (s : State) (sp : Space) (k : Nat) :
    s.stopStreaming.byteAt sp k = s.byteAt sp k := rfl
@[simp] theorem State.stopStreaming_sizeOf (s : State) (sp : Space) :
    s.stopStreaming.sizeOf sp = s.sizeOf sp := rfl

/-! ### `State.writeBytes` -/

@[simp] theorem State.writeBytes_par (s : State) (sp : Space) (a : Nat) (bs : List Byte) :
    (s.writeBytes sp a bs).par = s.par := rfl
@[simp] theorem State.writeBytes_store (s : State) (sp : Space) (a : Nat) (bs : List Byte) :
    (s.writeBytes sp a bs).store = s.store.put sp (Memory.setAll (s.store.get sp) a bs) := rfl
@[simp] theorem State.writeBytes_ebLen (s : State) (sp : Space) (a : Nat) (bs : List Byte) :
    (s.writeBytes sp a bs).ebLen = s.ebLen := rfl
@[simp] theorem State.writeBytes_handoff (s : State) (sp : Space) (a : Nat) (bs : List Byte) :
    (s.writeBytes sp a bs).handoff = s.handoff := rfl
@[simp] theorem State.writeBytes_lineIdx (s : State) (sp : Space) (a : Nat) (bs : List Byte) :
    (s.writeBytes sp a bs).lineIdx = s.lineIdx := rfl
@[simp] theorem State.writeBytes_lbSlot (s : State) (sp : Space) (a : Nat) (bs : List Byte) :
    (s.writeBytes sp a bs).lbSlot = s.lbSlot := rfl
@[simp] theorem State.writeBytes_avail (s : State) (sp : Space) (a : Nat) (bs : List Byte) :
    (s.writeBytes sp a bs).avail = s.avail := rfl
@[simp] theorem State.writeBytes_streaming (s : State) (sp : Space) (a : Nat) (bs : List Byte) :
    (s.writeBytes sp a bs).streaming = s.streaming := rfl
@[simp] theorem State.writeBytes_seq (s : State) (sp : Space) (a : Nat) (bs : List Byte) :
    (s.writeBytes sp a bs).seq = s.seq := rfl
@[simp] theorem State.writeBytes_sendCnt (s : State) (sp : Space) (a : Nat) (bs : List Byte) :
    (s.writeBytes sp a bs).sendCnt = s.sendCnt := rfl
@[simp] theorem State.writeBytes_phase (s : State) (sp : Space) (a : Nat) (bs : List Byte) :
    (s.writeBytes sp a bs).phase = s.phase := rfl
@[simp] theorem State.writeBytes_view (s : State) (sp : Space) (a : Nat) (bs : List Byte) :
    (s.writeBytes sp a bs).view = s.view := rfl
@[simp] theorem State.writeBytes_viewStale (s : State) (sp : Space) (a : Nat) (bs : List Byte) :
    (s.writeBytes sp a bs).viewStale = s.viewStale := rfl
@[simp] theorem State.writeBytes_cmdq (s : State) (sp : Space) (a : Nat) (bs : List Byte) :
    (s.writeBytes sp a bs).cmdq = s.cmdq := rfl
@[simp] theorem State.writeBytes_txlog (s : State) (sp : Space) (a : Nat) (bs : List Byte) :
    (s.writeBytes sp a bs).txlog = s.txlog := rfl
@[simp] theorem State.writeBytes_diaglog (s : State) (sp : Space) (a : Nat) (bs : List Byte) :
    (s.writeBytes sp a bs).diaglog = s.diaglog := rfl
@[simp] theorem State.writeBytes_ret (s : State) (sp : Space) (a : Nat) (bs : List Byte) :
    (s.writeBytes sp a bs).ret = s.ret := rfl
@[simp] theorem State.writeBytes_trace (s : State) (sp : Space) (a : Nat) (bs : List Byte) :
    (s.writeBytes sp a bs).trace = s.trace := rfl
@[simp] theorem State.writeBytes_powerUps (s : State) (sp : Space) (a : Nat) (bs : List Byte) :
    (s.writeBytes sp a bs).powerUps = s.powerUps := rfl
@[simp] theorem State.writeBytes_draws (s : State) (sp : Space) (a : Nat) (bs : List Byte) :
    (s.writeBytes sp a bs).draws = s.draws := rfl
@[simp] theorem State.writeBytes_sizeOf (s : State) (sp : Space) (a : Nat) (bs : List Byte) (sp' : Space) :
    (s.writeBytes sp a bs).sizeOf sp' = s.sizeOf sp' := rfl

end Sys2Proof.Machine
end

