-- ==== Sys2Proof/Laws/Memory.lean ====
section
/-! SUPPORT. The laws of storage: a read after a write, what a write leaves alone, and the canonical
form every operation on a space keeps. -/

namespace Sys2Proof.Machine

@[simp] theorem Memory.get?_nil (a : Nat) : Memory.get? [] a = none := rfl

/-- Reading after writing one byte; no canonical form is needed. -/
theorem Memory.get?_set (m : Memory) (a b : Nat) (v : Byte) :
    (m.set a v).get? b = if b = a then some v else m.get? b := by
  induction m with
  | nil => by_cases hb : b = a <;> simp [Memory.set, Memory.get?, hb, Ne.symm]
  | cons c m ih =>
    obtain ⟨k, w⟩ := c
    simp only [Memory.set]
    split
    · simp only [Memory.get?]; grind
    · split
      · simp only [Memory.get?]; grind
      · simp only [Memory.get?, ih]; grind

theorem Memory.mem_set (m : Memory) (a : Nat) (v : Byte) (c : Host.Cell) (h : c ∈ m.set a v) :
    c = (a, v) ∨ c ∈ m := by
  induction m with
  | nil => simpa [Memory.set] using h
  | cons d m ih =>
    obtain ⟨k, w⟩ := d
    simp only [Memory.set] at h
    split at h
    · simpa using h
    · split at h <;> simp only [List.mem_cons] at h ⊢ <;> grind

theorem Memory.set_pairwise (m : Memory) (a : Nat) (v : Byte)
    (h : m.Pairwise (fun c d => c.1 < d.1)) : (m.set a v).Pairwise (fun c d => c.1 < d.1) := by
  induction m with
  | nil => simp [Memory.set]
  | cons d m ih =>
    obtain ⟨k, w⟩ := d
    rw [List.pairwise_cons] at h
    simp only [Memory.set]
    split
    · simp only [List.pairwise_cons, List.mem_cons]; grind
    · split
      · subst_vars; simpa [List.pairwise_cons] using h
      · rw [List.pairwise_cons]
        refine ⟨fun c hc => ?_, ih h.2⟩
        rcases Memory.mem_set m a v c hc with rfl | hc
        · simp; omega
        · exact h.1 c hc

/-- Writing one byte inside the space keeps its canonical form. -/
theorem Memory.set_wf {size : Nat} {m : Memory} {a : Nat} (v : Byte) (h : Memory.wf size m)
    (ha : a < size) : Memory.wf size (m.set a v) :=
  ⟨Memory.set_pairwise m a v h.1, fun c hc => by
    rcases Memory.mem_set m a v c hc with rfl | hc
    · exact ha
    · exact h.2 c hc⟩

/-- Writing bytes inside the space keeps its canonical form. -/
theorem Memory.setAll_wf {size : Nat} (bs : List Byte) {m : Memory} {a : Nat}
    (h : Memory.wf size m) (ha : a + bs.length ≤ size) : Memory.wf size (m.setAll a bs) := by
  induction bs generalizing m a with
  | nil => exact h
  | cons v vs ih =>
    simp only [List.length_cons] at ha
    exact ih (Memory.set_wf v h (by omega)) (by omega)

/-- Reading an offset after writing bytes: the byte written there, else what was there before. -/
theorem Memory.get?_setAll (bs : List Byte) (m : Memory) (a b : Nat) :
    (m.setAll a bs).get? b =
      if a ≤ b ∧ b < a + bs.length then bs[b - a]? else m.get? b := by
  induction bs generalizing m a with
  | nil => simp only [Memory.setAll, List.length_nil]; rw [if_neg (by omega)]
  | cons v vs ih =>
    simp only [Memory.setAll, List.length_cons]
    rw [ih, Memory.get?_set]
    by_cases hb : b = a
    · subst hb
      rw [if_neg (by omega), if_pos rfl, if_pos (by omega)]; simp
    · by_cases hc : a + 1 ≤ b ∧ b < a + 1 + vs.length
      · rw [if_pos hc, if_pos (by omega)]
        obtain ⟨k, rfl⟩ : ∃ k, b = a + 1 + k := ⟨b - (a + 1), by omega⟩
        rw [show a + 1 + k - (a + 1) = k by omega, show a + 1 + k - a = k + 1 by omega]; simp
      · rw [if_neg hc, if_neg hb, if_neg (by omega)]

/-! ## The six spaces -/

@[simp] theorem Store.get_put_same (st : Store) (sp : Space) (m : Memory) :
    (st.put sp m).get sp = m := by
  cases sp with
  | fb i => cases i <;> rfl
  | lb i => cases i <;> rfl
  | rb => rfl
  | eb => rfl

theorem Store.get_put_ne (st : Store) (sp sp' : Space) (m : Memory) (h : sp' ≠ sp) :
    (st.put sp m).get sp' = st.get sp' := by
  rcases sp with (_ | _) | (_ | _) | _ | _ <;> rcases sp' with (_ | _) | (_ | _) | _ | _ <;>
    first
    | rfl
    | exact absurd rfl h

theorem Store.get_put (st : Store) (sp sp' : Space) (m : Memory) :
    (st.put sp m).get sp' = if sp' = sp then m else st.get sp' := by
  split
  · subst_vars; simp
  · exact Store.get_put_ne st sp sp' m ‹_›

@[simp] theorem Store.empty_get (sp : Space) : Store.empty.get sp = [] := by
  rcases sp with (_ | _) | (_ | _) | _ | _ <;> rfl

theorem Memory.nil_wf (size : Nat) : Memory.wf size [] :=
  ⟨List.Pairwise.nil, fun _ h => absurd h (List.not_mem_nil)⟩

/-! ## Reading after writing, in a state -/

/-- What a byte reads after `writeBytes`: the byte written there, else the byte before. -/
theorem State.byteAt_writeBytes (s : State) (sp sp' : Space) (a b : Nat) (bs : List Byte) :
    (s.writeBytes sp a bs).byteAt sp' b =
      if sp' = sp ∧ a ≤ b ∧ b < a + bs.length then bs.getD (b - a) 0 else s.byteAt sp' b := by
  simp only [State.byteAt, State.writeBytes_store, State.writeBytes_powerUps, Store.get_put]
  by_cases hsp : sp' = sp
  · subst hsp
    rw [if_pos rfl, Memory.get?_setAll]
    by_cases hb : a ≤ b ∧ b < a + bs.length
    · rw [if_pos hb, if_pos ⟨rfl, hb⟩, List.getElem?_eq_getElem (by omega), List.getD_eq_getElem _ _ (by omega)]
      rfl
    · rw [if_neg hb, if_neg (fun hc => hb hc.2)]
  · rw [if_neg hsp, if_neg (fun hc => hsp hc.1)]

/-- Another space reads as before. -/
theorem State.byteAt_writeBytes_ne (s : State) (sp sp' : Space) (a b : Nat) (bs : List Byte)
    (h : sp' ≠ sp) : (s.writeBytes sp a bs).byteAt sp' b = s.byteAt sp' b := by
  simp only [State.byteAt, State.writeBytes_store, State.writeBytes_powerUps,
    Store.get_put_ne _ _ _ _ h]

@[simp] theorem State.readBytes_length (s : State) (sp : Space) (a n : Nat) :
    (s.readBytes sp a n).length = n := by
  induction n generalizing a with
  | zero => rfl
  | succ n ih => simp [State.readBytes, ih]

/-- Byte `i` of what is read from `a` is the byte at `a + i`. -/
theorem State.readBytes_getElem (s : State) (sp : Space) (a n i : Nat)
    (h : i < (s.readBytes sp a n).length) : (s.readBytes sp a n)[i] = s.byteAt sp (a + i) := by
  induction n generalizing a i with
  | zero => simp [State.readBytes] at h
  | succ n ih =>
    cases i with
    | zero => simp [State.readBytes]
    | succ i =>
      simp only [State.readBytes, List.getElem_cons_succ]
      rw [ih (a + 1) i (by simpa [State.readBytes] using h), show a + 1 + i = a + (i + 1) by omega]

/-- Two reads are equal when the bytes are. -/
theorem State.readBytes_congr (s t : State) (sp sp' : Space) (a b n : Nat)
    (h : ∀ i, i < n → t.byteAt sp' (b + i) = s.byteAt sp (a + i)) :
    t.readBytes sp' b n = s.readBytes sp a n := by
  refine List.ext_getElem (by simp) fun i h1 h2 => ?_
  rw [State.readBytes_getElem, State.readBytes_getElem]
  exact h i (by simpa using h2)

/-- A read is the bytes `bs` when each byte is. -/
theorem State.readBytes_eq_of (s : State) (sp : Space) (a : Nat) (bs : List Byte)
    (h : ∀ i (hi : i < bs.length), s.byteAt sp (a + i) = bs[i]) :
    s.readBytes sp a bs.length = bs := by
  refine List.ext_getElem (by simp) fun i h1 h2 => ?_
  rw [State.readBytes_getElem]
  exact h i h2

/-- A read splits. -/
theorem State.readBytes_append (s : State) (sp : Space) (a m n : Nat) :
    s.readBytes sp a (m + n) = s.readBytes sp a m ++ s.readBytes sp (a + m) n := by
  induction m generalizing a with
  | zero => simp [State.readBytes]
  | succ m ih =>
    rw [show m + 1 + n = (m + n) + 1 by omega]
    simp only [State.readBytes, ih, List.cons_append, show a + 1 + m = a + (m + 1) by omega]

/-- A prefix of a read. -/
theorem State.readBytes_take (s : State) (sp : Space) (a n k : Nat) (h : k ≤ n) :
    (s.readBytes sp a n).take k = s.readBytes sp a k := by
  obtain ⟨d, rfl⟩ := Nat.exists_eq_add_of_le h
  rw [State.readBytes_append, List.take_append_of_le_length (by simp), List.take_of_length_le (by simp)]

/-- Reading back what was just written. -/
theorem State.readBytes_writeBytes (s : State) (sp : Space) (a : Nat) (bs : List Byte) :
    (s.writeBytes sp a bs).readBytes sp a bs.length = bs := by
  refine State.readBytes_eq_of _ _ _ _ fun i hi => ?_
  rw [State.byteAt_writeBytes, if_pos ⟨rfl, by omega, by omega⟩,
    show a + i - a = i by omega, List.getD_eq_getElem _ _ hi]

/-- Writing into one space keeps every space's canonical form, if the bytes are inside it. -/
theorem State.writeBytes_wf (s : State) (sp : Space) (a : Nat) (bs : List Byte)
    (h : ∀ sp, Memory.wf (s.sizeOf sp) (s.store.get sp)) (ha : a + bs.length ≤ s.sizeOf sp) :
    ∀ sp', Memory.wf ((s.writeBytes sp a bs).sizeOf sp') ((s.writeBytes sp a bs).store.get sp') := by
  intro sp'
  simp only [State.writeBytes_sizeOf, State.writeBytes_store, Store.get_put]
  split
  · subst_vars; exact Memory.setAll_wf bs (h _) ha
  · exact h sp'

/-! ## MemRead and MemWrite -/

/-- What MemRead answers (20_memory R61). -/
theorem memRead_eq_ok {s : State} {sp : Space} {off n : Nat} {bs : List Byte} :
    memRead s sp off n = .ok bs ↔ off + n ≤ s.sizeOf sp ∧ bs = s.readBytes sp off n := by
  unfold memRead
  split
  · simp; omega
  · simp only [Except.ok.injEq]; exact ⟨fun h => ⟨by omega, h.symm⟩, fun h => h.2.symm⟩

/-- MemRead inside the space. -/
theorem memRead_of_le {s : State} {sp : Space} {off n : Nat} (h : off + n ≤ s.sizeOf sp) :
    memRead s sp off n = .ok (s.readBytes sp off n) := memRead_eq_ok.2 ⟨h, rfl⟩

/-- What MemWrite answers (20_memory R61). -/
theorem memWrite_eq_ok {s t : State} {sp : Space} {off : Nat} {v : List Byte} :
    memWrite s sp off v = .ok t ↔ off + v.length ≤ s.sizeOf sp ∧ t = s.writeBytes sp off v := by
  unfold memWrite
  split
  · simp; omega
  · simp only [Except.ok.injEq]; exact ⟨fun h => ⟨by omega, h.symm⟩, fun h => h.2.symm⟩

/-- MemWrite inside the space. -/
theorem memWrite_of_le {s : State} {sp : Space} {off : Nat} {v : List Byte}
    (h : off + v.length ≤ s.sizeOf sp) : memWrite s sp off v = .ok (s.writeBytes sp off v) :=
  memWrite_eq_ok.2 ⟨h, rfl⟩

/-- MemRead refuses only an access outside the space. -/
theorem memRead_error {s : State} {sp : Space} {off n : Nat} {r : Refusal}
    (h : memRead s sp off n = .error r) : r = .outOfRange ∧ s.sizeOf sp < off + n := by
  unfold memRead at h
  split at h
  · exact ⟨by simpa [eq_comm] using h, ‹_›⟩
  · cases h

/-- MemWrite refuses only an access outside the space. -/
theorem memWrite_error {s : State} {sp : Space} {off : Nat} {v : List Byte} {r : Refusal}
    (h : memWrite s sp off v = .error r) : r = .outOfRange ∧ s.sizeOf sp < off + v.length := by
  unfold memWrite at h
  split at h
  · exact ⟨by simpa [eq_comm] using h, ‹_›⟩
  · cases h

end Sys2Proof.Machine
end

