-- ==== Sys2Proof/Laws/Params.lean ====
section
/-! SUPPORT. The parameter record of the machine is as free as the spec leaves it. -/

namespace Sys2Proof

/-- The machine's own record has DOC00's literals (00_scope R3). -/
theorem Config.params_hasDocLiterals : Config.params.raw.HasDocLiterals :=
  ⟨rfl, rfl, rfl, rfl, rfl⟩

/-- A whole image frame fits an envelope (00_scope R8). -/
theorem ValidParams.img_le (p : ValidParams) : p.raw.imgFrameBytes ≤ p.raw.maxPayload :=
  p.valid.2.2.2.2.2.1

/-- A whole radar frame fits an envelope (00_scope R8). -/
theorem ValidParams.radar_le (p : ValidParams) : p.raw.radarFrameBytes ≤ p.raw.maxPayload :=
  p.valid.2.2.2.2.2.2.1

/-- MAX_PAYLOAD fits the length field (00_scope R8). -/
theorem ValidParams.max_lt (p : ValidParams) : p.raw.maxPayload < 4294967296 := by
  have := p.valid.2.2.2.2.2.2.2.1; omega

/-- The expected line count is below the counter's saturation value (00_scope R8). -/
theorem ValidParams.lines_le (p : ValidParams) : p.raw.imgLines ≤ 65534 := p.valid.2.1

/-- There is at least one line (00_scope R8). -/
theorem ValidParams.lines_pos (p : ValidParams) : 1 ≤ p.raw.imgLines := p.valid.1

/-- Every record that meets 00_scope R8 and has DOC00's literals is `Params.ofOpen` of some free
numbers: the OPEN parameters are constrained by R8 only (log entry 1). -/
theorem Params.ofOpen_covers (p : Params) (h : p.Valid) (hd : p.HasDocLiterals) :
    ∃ l s w m t poly, p = Params.ofOpen l s w m t poly := by
  obtain ⟨lines, lb, rs, rw', mp, s0, s1, cs, seed, poly, t⟩ := p
  obtain ⟨hl, h0, h1, hc, hs⟩ := hd
  simp only at hl h0 h1 hc hs
  subst hl h0 h1 hc hs
  simp only [Params.Valid, Params.imgFrameBytes, Params.radarFrameBytes] at h
  obtain ⟨-, -, hlb, hrs, hrw, hi, hr, hm, -⟩ := h
  have hq : rw' ≤ 4294967295 / rs := (Nat.le_div_iff_mul_le hrs).2 (by rw [Nat.mul_comm]; omega)
  have hrs' : rs ≤ rs * rw' := Nat.le_mul_of_pos_right rs hrw
  refine ⟨lb - 1, rs - 1, rw' - 1, mp - max (480 * lb) (rs * rw'), t, poly, ?_⟩
  simp only [Params.ofOpen]
  rw [Nat.mod_eq_of_lt (show lb - 1 < 8947848 by omega), Nat.sub_add_cancel hlb,
    Nat.mod_eq_of_lt (show rs - 1 < 4294967295 by omega), Nat.sub_add_cancel hrs,
    Nat.mod_eq_of_lt (show rw' - 1 < 4294967295 / rs by omega), Nat.sub_add_cancel hrw,
    Nat.mod_eq_of_lt
      (show mp - max (480 * lb) (rs * rw') < 4294967296 - max (480 * lb) (rs * rw') by omega)]
  congr 1
  omega

end Sys2Proof
end

