-- ==== Sys2Proof/Laws/Ops.lean ====
section
/-! SUPPORT. For each shared operation one lemma that says once everything it can answer. -/

namespace Sys2Proof.Machine

/-! ## Sizes -/

@[simp] theorem State.sizeOf_fb (s : State) (i : Bool) : s.sizeOf (.fb i) = s.par.raw.imgFrameBytes := rfl
@[simp] theorem State.sizeOf_lb (s : State) (i : Bool) : s.sizeOf (.lb i) = s.par.raw.lineBytes := rfl
@[simp] theorem State.sizeOf_rb (s : State) : s.sizeOf .rb = s.par.raw.radarFrameBytes := rfl
@[simp] theorem State.sizeOf_eb (s : State) : s.sizeOf .eb = s.par.raw.maxPayload + 8 := rfl

@[simp] theorem le32_length (n : Nat) : (le32 n).length = 4 := rfl

@[simp] theorem envelopeBytes_length (p : Params) (seq cks : Byte) (payload : List Byte) :
    (envelopeBytes p seq cks payload).length = payload.length + 8 := by
  simp [envelopeBytes]; omega

@[simp] theorem frameBytes_length (p : Params) (payload : List Byte) (seq : Byte) :
    (frameBytes p payload seq).length = payload.length + 8 := envelopeBytes_length _ _ _ _

/-! ## Frames -/

/-- A larger frame covers a smaller one. -/
theorem Frame.mono {s t : State} {xs ys : List Elem} (h : Frame s t xs) (hs : ∀ e ∈ xs, e ∈ ys) :
    Frame s t ys := fun e he => h e fun hx => he (hs e hx)

theorem Elem.agrees_trans {s t u : State} {e : Elem} (h1 : e.Agrees s t) (h2 : e.Agrees t u) :
    e.Agrees s u := by
  cases e
  case space sp => exact fun a => (h2 a).trans (h1 a)
  all_goals exact Eq.trans h2 h1

/-- Frames compose. -/
theorem Frame.trans {s t u : State} {xs : List Elem} (h1 : Frame s t xs) (h2 : Frame t u xs) :
    Frame s u xs := fun e he => Elem.agrees_trans (h1 e he) (h2 e he)

/-- Writing bytes into one space leaves everything but that space. -/
theorem frame_writeBytes (s : State) (sp : Space) (a : Nat) (bs : List Byte) :
    Frame s (s.writeBytes sp a bs) [.space sp] := by
  intro e he
  cases e
  case space sp' =>
    exact fun b => State.byteAt_writeBytes_ne _ _ _ _ _ _ (by rintro rfl; simp at he)
  all_goals rfl

/-- Outside the bytes written, the space reads as before. -/
theorem frameBytes_writeBytes (s : State) (sp : Space) (a : Nat) (bs : List Byte) :
    FrameBytes s (s.writeBytes sp a bs) sp a bs.length := by
  intro b hb
  rw [State.byteAt_writeBytes, if_neg (by omega)]

/-! ## The phase check -/

/-- An ML operation answers a next state only in its phase. -/
theorem inPhase_next {p : Phase} {s t : State} {k : Except Refusal State} :
    inPhase p s k = .next t ↔ s.phase = p ∧ k = .ok t := by
  unfold inPhase outcome
  split
  · cases k <;> simp_all
  · simp_all

theorem inPhase_of {p : Phase} {s : State} (k : Except Refusal State) (h : s.phase = p) :
    inPhase p s k = outcome k := if_pos h

/-! ## TAKE_READY -/

theorem takeReady_ready {s : State} (h : s.handoff.rdy = true) :
    takeReady s = (.ready (!s.handoff.sel), s.takeView) := if_pos h

theorem takeReady_notReady {s : State} (h : s.handoff.rdy = false) :
    takeReady s = (.notReady, s) := if_neg (by simp [h])

/-! ## The view -/

/-- What a read through the view answers (41_buffer_pair R143). -/
theorem viewBytes_ok {s : State} {off n : Nat} {draw : Option (List Byte)} {bs : List Byte}
    (h : viewBytes s off n draw = .ok bs) :
    ∃ v, s.view = some v ∧ off + n ≤ s.par.raw.imgFrameBytes ∧ bs.length = n ∧
      ((s.viewStale = false ∧ draw = none ∧ bs = s.readBytes (.fb v) off n) ∨
       (s.viewStale = true ∧ draw = some bs)) := by
  unfold viewBytes at h
  split at h
  · cases h
  · rename_i v hv
    refine ⟨v, hv, ?_⟩
    split at h
    · cases h
    · rename_i r hr
      obtain ⟨hle, rfl⟩ := memRead_eq_ok.1 hr
      split at h
      · cases h; exact ⟨hle, by simp, .inl ⟨‹_›, rfl, rfl⟩⟩
      · split at h
        · cases h; exact ⟨hle, ‹_›, .inr ⟨‹_›, rfl⟩⟩
        · cases h
      · cases h

/-- A read of a fresh view inside the frame. -/
theorem viewBytes_fresh {s : State} {v : Bool} {off n : Nat} (hv : s.view = some v)
    (hs : s.viewStale = false) (h : off + n ≤ s.par.raw.imgFrameBytes) :
    viewBytes s off n none = .ok (s.readBytes (.fb v) off n) := by
  simp [viewBytes, hv, hs, memRead_of_le (sp := .fb v) (s := s) h]

/-- A read of a stale view inside the frame. -/
theorem viewBytes_stale {s : State} {v : Bool} {off n : Nat} {d : List Byte} (hv : s.view = some v)
    (hs : s.viewStale = true) (h : off + n ≤ s.par.raw.imgFrameBytes) (hd : d.length = n) :
    viewBytes s off n (some d) = .ok d := by
  simp [viewBytes, hv, hs, memRead_of_le (sp := .fb v) (s := s) h, hd]

/-! ## Lines -/

/-- The bytes of a line inside the frame fit the frame buffer (42_capture_fsm R163). -/
theorem lineOffset_le {s : State} (h : s.lineIdx.toNat < s.expectedLines) :
    lineOffset s + s.par.raw.lineBytes ≤ s.par.raw.imgFrameBytes := by
  have := Nat.mul_le_mul_right s.par.raw.lineBytes h
  simp only [State.expectedLines, Nat.succ_mul] at this
  simpa [lineOffset, Params.imgFrameBytes] using this

/-- LINE_DONE's copy always succeeds (42_capture_fsm R162, R163). -/
theorem relocateLine_eq (s : State) :
    relocateLine s =
      .ok (if s.lineIdx.toNat < s.expectedLines then
        s.writeBytes (.fb s.handoff.sel) (lineOffset s)
          (s.readBytes (.lb s.lbSlot) 0 s.par.raw.lineBytes)
      else s) := by
  unfold relocateLine
  split
  · rename_i h
    rw [memRead_of_le (by simp), show writeHandle s = s.handoff.sel from rfl]
    exact memWrite_of_le (by simpa using lineOffset_le h)
  · rfl

/-- LINE_DONE always answers a next state (R162). -/
theorem execLineDone_eq (s : State) :
    execLineDone s =
      .next ((if s.lineIdx.toNat < s.expectedLines then
        s.writeBytes (.fb s.handoff.sel) (lineOffset s)
          (s.readBytes (.lb s.lbSlot) 0 s.par.raw.lineBytes)
      else s).countLine.returns .none) := by
  rw [execLineDone, relocateLine_eq]

/-- The saturating counter as a number (10_state R27). -/
theorem sat16Inc_toNat (v : BitVec 16) : (sat16Inc v).toNat = min (v.toNat + 1) 65535 := by
  have hv := v.isLt
  unfold sat16Inc lineIdxMax
  split
  · rw [BitVec.toNat_add]; simp; omega
  · omega

/-- FRAME_DONE of a complete frame (R164). -/
theorem execFrameDone_complete {s : State} (h : s.lineIdx.toNat = s.par.raw.imgLines) :
    execFrameDone s = .next (s.swapBuffers.endFrame.returns .none) := by
  simp [execFrameDone, State.frameVerdict, State.expectedLines, h]

/-- FRAME_DONE of a malformed frame (R164, R165). -/
theorem execFrameDone_malformed {s : State} (h : s.lineIdx.toNat ≠ s.par.raw.imgLines) :
    execFrameDone s = .next (((s.emit (malformed s)).endFrame).raises (malformed s)) := by
  simp [execFrameDone, State.frameVerdict, State.expectedLines, h]

/-! ## Envelopes -/

/-- What leaving an envelope in EB answers (44_envelope_framer R200, R202). -/
theorem putEnvelope_eq (s : State) (seq cks : Byte) (payload : List Byte) :
    putEnvelope s seq cks payload =
      if s.par.raw.maxPayload < payload.length then .error (.payloadTooLarge (tooLarge payload))
      else .ok ((s.writeBytes .eb 0 (envelopeBytes s.par.raw seq cks payload)).setEbLen
        (payload.length + 8)) := by
  unfold putEnvelope
  split
  · rfl
  · rw [memWrite_of_le (by simp; omega)]

theorem putEnvelope_of_le {s : State} {seq cks : Byte} {payload : List Byte}
    (h : payload.length ≤ s.par.raw.maxPayload) :
    putEnvelope s seq cks payload =
      .ok ((s.writeBytes .eb 0 (envelopeBytes s.par.raw seq cks payload)).setEbLen
        (payload.length + 8)) := by
  rw [putEnvelope_eq, if_neg (by omega)]

theorem putEnvelope_ok {s t : State} {seq cks : Byte} {payload : List Byte}
    (h : putEnvelope s seq cks payload = .ok t) :
    payload.length ≤ s.par.raw.maxPayload ∧
      t = (s.writeBytes .eb 0 (envelopeBytes s.par.raw seq cks payload)).setEbLen
        (payload.length + 8) := by
  rw [putEnvelope_eq] at h
  split at h
  · cases h
  · exact ⟨by omega, by simpa [eq_comm] using h⟩

/-- The envelope just written is what EB holds. -/
theorem putEnvelope_holds (s : State) (seq cks : Byte) (payload : List Byte) :
    HoldsInEb s ((s.writeBytes .eb 0 (envelopeBytes s.par.raw seq cks payload)).setEbLen
        (payload.length + 8)) (envelopeBytes s.par.raw seq cks payload) := by
  refine ⟨?_, by simp, fun b hb => frameBytes_writeBytes s .eb 0 _ b hb⟩
  have h := State.readBytes_writeBytes s .eb 0 (envelopeBytes s.par.raw seq cks payload)
  rw [State.readBytes_congr (s.writeBytes .eb 0 (envelopeBytes s.par.raw seq cks payload))
    ((s.writeBytes .eb 0 (envelopeBytes s.par.raw seq cks payload)).setEbLen (payload.length + 8))
    .eb .eb 0 0 _ fun _ _ => rfl]
  exact h

/-- What happens outside EB leaves EB's envelope. -/
theorem HoldsInEb.of_same {s t u : State} {e : List Byte} (h : HoldsInEb s t e)
    (hb : ∀ a, u.byteAt .eb a = t.byteAt .eb a) (hl : u.ebLen = t.ebLen) : HoldsInEb s u e :=
  ⟨(State.readBytes_congr t u .eb .eb 0 0 _ fun _ _ => hb _).trans h.1, hl.trans h.2.1,
    fun b hb' => (hb b).trans (h.2.2 b hb')⟩

/-- The frame of an operation that writes one space and then something else. -/
theorem Frame.of_writeBytes {s t : State} {xs : List Elem} (sp : Space) (a : Nat) (bs : List Byte)
    (h : Frame (s.writeBytes sp a bs) t xs) : Frame s t (.space sp :: xs) :=
  Frame.trans (Frame.mono (frame_writeBytes s sp a bs) (by simp)) (Frame.mono h (by simp +contextual))

/-- The envelope of the taken frame, by the freshness of the view (45_stream_controller R223). -/
theorem buildImage_ok {s t : State} {draw : Option StaleDraw} (h : buildImage s draw = .ok t) :
    (∃ v, s.view = some v ∧ s.viewStale = false ∧ draw = none ∧
      buildFrame s (s.readBytes (.fb v) 0 s.par.raw.imgFrameBytes) s.seq = .ok t) ∨
    (∃ d, s.viewStale = true ∧ draw = some d ∧ d.payload.length = s.par.raw.imgFrameBytes ∧
      putEnvelope s s.seq d.checksum d.payload = .ok t) := by
  unfold buildImage at h
  split at h
  · split at h
    · cases h
    · rename_i hb
      obtain ⟨v, hv, -, -, ⟨hs, -, rfl⟩ | ⟨hs, hd⟩⟩ := viewBytes_ok hb
      · exact .inl ⟨v, hv, hs, rfl, h⟩
      · cases hd
  · split at h
    · exact .inr ⟨_, ‹_›, rfl, ‹_›, h⟩
    · cases h
  · cases h

/-! ## Transmits -/

/-- A transmit with an allowed answer and EB_LEN in its range (45_stream_controller R225). -/
theorem txBytesOf_of {s : State} {a : TxDraw} (hl : s.ebLen ≤ s.par.raw.maxPayload + 8)
    (ha : TxAllowed s a) :
    txBytesOf s a =
      .ok (match a.outcome with
        | .ok => s.readBytes .eb 0 s.ebLen
        | _ => s.readBytes .eb 0 a.delivered.toNat) := by
  obtain ⟨o, d⟩ := a
  cases o
  · exact memRead_of_le (by simpa using hl)
  all_goals
    have hd : d.toNat ≤ s.ebLen := by
      rcases ha with h | h
      · cases h
      · exact h
    simp only [txBytesOf]
    rw [if_neg (by omega)]
    exact memRead_of_le (by simp; omega)

/-- Everything a transmit can answer: a prefix of EB's first EB_LEN bytes goes out, and either it is
all of them and SEND_CNT counts it, or STREAMING is cleared. -/
theorem sendEnvelope_ok {s t : State} {a : TxDraw} {r : Ret} (h : sendEnvelope s a = .ok (r, t)) :
    ∃ n, n ≤ s.ebLen ∧ n ≤ s.par.raw.maxPayload + 8 ∧
      ((a.outcome = .ok ∧ n = s.ebLen ∧ r = .ok ∧
        t = (s.txAppend (s.readBytes .eb 0 n)).countSend) ∨
       (a.outcome ≠ .ok ∧ n = a.delivered.toNat ∧ (∃ d, r = .raised d) ∧
        t = (s.txAppend (s.readBytes .eb 0 n)).stopStreaming)) := by
  obtain ⟨o, d⟩ := a
  cases o <;> simp only [sendEnvelope, txBytesOf] at h
  · split at h
    · cases h
    · rename_i hr
      obtain ⟨hle, rfl⟩ := memRead_eq_ok.1 hr
      cases h
      exact ⟨s.ebLen, le_rfl, by simpa using hle, .inl ⟨rfl, rfl, rfl, rfl⟩⟩
  all_goals
    split at h
    · cases h
    · rename_i hr
      split at hr
      · cases hr
      · obtain ⟨hle, rfl⟩ := memRead_eq_ok.1 hr
        cases h
        exact ⟨d.toNat, by omega, by simpa using hle, .inr ⟨by simp, rfl, ⟨_, rfl⟩, rfl⟩⟩

/-! ## Drains -/

/-- Everything a drain can answer (43_radar_adapter R182). -/
theorem drainRadar_eq {s : State} {expected : Nat} {a : RadarDraw}
    (h : a.data.length = s.par.raw.radarFrameBytes) :
    drainRadar s expected a =
      .ok (if expected = a.spf.toNat then
        (if a.fault = 1 then .raised { kind := .hardwareFault, info := .none } else .ok,
          (s.setAvail false).writeBytes .rb 0 a.data)
      else
        (.raised { kind := .sizeMismatch, info := .sizes expected a.spf.toNat }, s.setAvail false)) := by
  simp only [drainRadar, radarDataOf, h, if_true]
  split
  · rw [memWrite_of_le (by simp [h])]
    by_cases hf : a.fault = 1 <;> simp only [hf, if_true, if_false]
  · rfl

/-- A drain answers only for an answer of RADAR_FRAME_BYTES bytes. -/
theorem drainRadar_ok {s t : State} {expected : Nat} {a : RadarDraw} {r : Ret}
    (h : drainRadar s expected a = .ok (r, t)) : a.data.length = s.par.raw.radarFrameBytes := by
  by_contra hn
  simp [drainRadar, radarDataOf, hn] at h

/-! ## Commands -/

/-- What ML_CMD's check does (45_stream_controller R221). -/
theorem checkCommand_nil {s : State} (h : s.cmdq = []) : checkCommand s = s := by
  simp [checkCommand, h]

theorem checkCommand_cons {s : State} {b : Byte} {rest : List Byte} (h : s.cmdq = b :: rest) :
    checkCommand s = runCommand (s.setCmdq rest) b := by
  simp [checkCommand, h]

theorem runCommand_start (s : State) : runCommand s s.par.raw.cmdStart = s.startStreaming :=
  if_pos rfl

theorem runCommand_stop {s : State} {b : Byte} (h : b ≠ s.par.raw.cmdStart) :
    runCommand s b = s.stopStreaming := if_neg h

/-! ## Steps -/

/-- A step is one operation in the state `fetch` gives (30_encoding R104, 45_stream_controller R220). -/
theorem step_next {s t : State} (h : step s = .next t) :
    ∃ i s1, fetch s = .ok (i, s1) ∧ exec i s1 = .next t := by
  unfold step at h
  split at h
  · cases h
  · exact ⟨_, _, ‹_›, h⟩

/-- `fetch` changes nothing but the trace and the count of draws. -/
theorem fetch_ok {s s1 : State} {i : Instr} (h : fetch s = .ok (i, s1)) :
    (s.trace = [] ∧ i = consumerOp s ∧ s1 = s.drawOnce) ∨
    (∃ rest, decodeRecord s.ctx s.trace = .ok (i, rest) ∧ s1 = s.setTrace rest) := by
  unfold fetch at h
  split at h
  · rename_i ht; cases h; exact .inl ⟨ht, rfl, rfl⟩
  · rename_i b bs ht
    split at h
    · rename_i hd; cases h; exact .inr ⟨_, ht ▸ hd, rfl⟩
    · cases h

end Sys2Proof.Machine
end

