-- ==== Sys2Proof/Laws/Exec.lean ====
section
/-! SUPPORT. For each operation that can be refused, the state it leaves when it is not: the
inversion lemmas that later proofs cite in place of unfolding a meaning. The other operations are
single equations by `rfl`. -/

namespace Sys2Proof.Machine

/-- The state with an envelope of `payload` in EB (44_envelope_framer R200). -/
abbrev State.withEnvelope (s : State) (seq cks : Byte) (payload : List Byte) : State :=
  (s.writeBytes .eb 0 (envelopeBytes s.par.raw seq cks payload)).setEbLen (payload.length + 8)

/-- Leaving an envelope in EB changes EB and EB_LEN only. -/
theorem frame_withEnvelope (s : State) (seq cks : Byte) (payload : List Byte) :
    Frame s (s.withEnvelope seq cks payload) [.space .eb, .ebLen] := by
  refine Frame.of_writeBytes .eb 0 (envelopeBytes s.par.raw seq cks payload) fun e he => ?_
  cases e <;> first | rfl | (exact fun _ => rfl) | (simp at he)

theorem execViewRead_next {off n : U32} {draw : Option (List Byte)} {s t : State}
    (h : execViewRead off n draw s = .next t) :
    ∃ bs, viewBytes s off.toNat n.toNat draw = .ok bs ∧ t = s.returns (.bytes bs) := by
  unfold execViewRead at h
  split at h
  · cases h
  · cases h; exact ⟨_, ‹_›, rfl⟩

theorem execCapWrite_next {slot : Bool} {off : U32} {data : List Byte} {s t : State}
    (h : execCapWrite slot off data s = .next t) :
    off.toNat + data.length ≤ s.par.raw.lineBytes ∧
      t = (s.writeBytes (.lb slot) off.toNat data).returns .none := by
  unfold execCapWrite at h
  split at h
  · cases h
  · rename_i hw
    obtain ⟨hle, rfl⟩ := memWrite_eq_ok.1 hw
    cases h; exact ⟨hle, rfl⟩

theorem execRadarDrain_next {expected : U32} {a : RadarDraw} {s t : State}
    (h : execRadarDrain expected a s = .next t) :
    a.data.length = s.par.raw.radarFrameBytes ∧ ∃ r,
      (expected = a.spf ∧ t = ((s.setAvail false).writeBytes .rb 0 a.data).returns r) ∨
      (expected ≠ a.spf ∧ t = (s.setAvail false).returns r) := by
  unfold execRadarDrain at h
  split at h
  · cases h
  · rename_i hd
    have hl := drainRadar_ok hd
    rw [drainRadar_eq hl] at hd
    cases h
    split at hd
    · cases hd; exact ⟨hl, _, .inl ⟨BitVec.eq_of_toNat_eq ‹_›, rfl⟩⟩
    · rename_i hn
      cases hd; exact ⟨hl, _, .inr ⟨fun he => hn (congrArg _ he), rfl⟩⟩

theorem execFrame_next {seq : Byte} {payload : List Byte} {s t : State}
    (h : execFrame seq payload s = .next t) :
    payload.length ≤ s.par.raw.maxPayload ∧
      t = (s.withEnvelope seq (checksum s.par.raw payload) payload).returns
        (.bytes (frameBytes s.par.raw payload seq)) := by
  unfold execFrame at h
  split at h
  · cases h
  · obtain ⟨hle, rfl⟩ := putEnvelope_ok ‹_›
    cases h; exact ⟨hle, rfl⟩

theorem execEnvelope_next {seq cks : Byte} {payload : List Byte} {s t : State}
    (h : execEnvelope seq cks payload s = .next t) :
    payload.length ≤ s.par.raw.maxPayload ∧
      t = (s.withEnvelope seq cks payload).returns .none := by
  unfold execEnvelope at h
  split at h
  · cases h
  · obtain ⟨hle, rfl⟩ := putEnvelope_ok ‹_›
    cases h; exact ⟨hle, rfl⟩

/-- A transmit's state: a prefix of EB's envelope goes out, and SEND_CNT counts it or STREAMING is
cleared (45_stream_controller R225). -/
def State.Sent (s : State) (a : TxDraw) (u : State) : Prop :=
  ∃ n, n ≤ s.ebLen ∧ n ≤ s.par.raw.maxPayload + 8 ∧
    ((a.outcome = .ok ∧ u = (s.txAppend (s.readBytes .eb 0 n)).countSend) ∨
      (a.outcome ≠ .ok ∧ u = (s.txAppend (s.readBytes .eb 0 n)).stopStreaming))

theorem sendEnvelope_sent {s u : State} {a : TxDraw} {r : Ret} (h : sendEnvelope s a = .ok (r, u)) :
    s.Sent a u := by
  obtain ⟨n, h1, h2, ⟨ho, -, -, rfl⟩ | ⟨ho, -, -, rfl⟩⟩ := sendEnvelope_ok h
  · exact ⟨n, h1, h2, .inl ⟨ho, rfl⟩⟩
  · exact ⟨n, h1, h2, .inr ⟨ho, rfl⟩⟩

/-- A transmit changes TXLOG, SEND_CNT and STREAMING only. -/
theorem State.Sent.frame {s u : State} {a : TxDraw} (h : s.Sent a u) :
    Frame s u [.txlog, .sendCnt, .streaming] := by
  obtain ⟨n, -, -, ⟨-, rfl⟩ | ⟨-, rfl⟩⟩ := h <;>
  · intro e he
    cases e <;> first | rfl | (exact fun _ => rfl) | (simp at he)

theorem execTransmit_next {a : TxDraw} {s t : State} (h : execTransmit a s = .next t) :
    ∃ u r, s.Sent a u ∧ t = u.returns r := by
  unfold execTransmit at h
  split at h
  · cases h
  · cases h; exact ⟨_, _, sendEnvelope_sent ‹_›, rfl⟩

theorem execMlCmd_next {s t : State} (h : execMlCmd s = .next t) :
    s.phase = .cmd ∧ t = ((checkCommand s).goto .imgTake).returns .none := by
  obtain ⟨hp, hk⟩ := inPhase_next.1 h
  cases hk; exact ⟨hp, rfl⟩

theorem execMlImgTake_next {s t : State} (h : execMlImgTake s = .next t) :
    s.phase = .imgTake ∧
      ((s.handoff.rdy = true ∧ t = (s.takeView.goto .imgBuild).returns .none) ∨
        (s.handoff.rdy = false ∧ t = (s.goto .radPoll).returns .none)) := by
  obtain ⟨hp, hk⟩ := inPhase_next.1 h
  cases hr : s.handoff.rdy
  · rw [takeReady_notReady hr, hr] at hk
    cases hk; exact ⟨hp, .inr ⟨rfl, rfl⟩⟩
  · rw [takeReady_ready hr, hr] at hk
    cases hk; exact ⟨hp, .inl ⟨rfl, rfl⟩⟩

theorem execMlImgBuild_next {draw : Option StaleDraw} {s t : State}
    (h : execMlImgBuild draw s = .next t) :
    s.phase = .imgBuild ∧ ∃ cks payload, payload.length = s.par.raw.imgFrameBytes ∧
      t = ((s.withEnvelope s.seq cks payload).advanceSeq.releaseView.goto .imgTx).returns .none := by
  obtain ⟨hp, hk⟩ := inPhase_next.1 h
  split at hk
  · cases hk
  · rename_i hb
    cases hk
    refine ⟨hp, ?_⟩
    rcases buildImage_ok hb with ⟨v, -, -, -, hb⟩ | ⟨d, -, -, hl, hb⟩
    · obtain ⟨-, rfl⟩ := putEnvelope_ok hb
      exact ⟨_, _, by simp, rfl⟩
    · obtain ⟨-, rfl⟩ := putEnvelope_ok hb
      exact ⟨_, _, hl, rfl⟩

theorem execMlImgTx_next {answer : Option TxDraw} {s t : State}
    (h : execMlImgTx answer s = .next t) :
    s.phase = .imgTx ∧
      ((s.streaming = false ∧ answer = none ∧ t = (s.goto .radPoll).returns .none) ∨
        (s.streaming = true ∧ ∃ a u r, answer = some a ∧ s.Sent a u ∧
          t = (u.goto .radPoll).returns r)) := by
  obtain ⟨hp, hk⟩ := inPhase_next.1 h
  refine ⟨hp, ?_⟩
  split at hk
  · split at hk
    · cases hk
    · cases hk; exact .inr ⟨‹_›, _, _, _, rfl, sendEnvelope_sent ‹_›, rfl⟩
  · cases hk; exact .inl ⟨‹_›, rfl, rfl⟩
  · cases hk

theorem execMlRadPoll_next {s t : State} (h : execMlRadPoll s = .next t) :
    s.phase = .radPoll ∧ t = (s.goto (if s.avail then .radDrain else .cmd)).returns .none := by
  obtain ⟨hp, hk⟩ := inPhase_next.1 h
  cases hk; exact ⟨hp, rfl⟩

theorem execMlRadDrain_next {a : RadarDraw} {s t : State} (h : execMlRadDrain a s = .next t) :
    s.phase = .radDrain ∧ a.data.length = s.par.raw.radarFrameBytes ∧ ∃ r,
      t = afterDrain r ((s.setAvail false).writeBytes .rb 0 a.data) ∨
      t = afterDrain r (s.setAvail false) := by
  obtain ⟨hp, hk⟩ := inPhase_next.1 h
  split at hk
  · cases hk
  · rename_i hd
    have hl := drainRadar_ok hd
    rw [drainRadar_eq hl] at hd
    cases hk
    split at hd
    · cases hd; exact ⟨hp, hl, _, .inl rfl⟩
    · cases hd; exact ⟨hp, hl, _, .inr rfl⟩

theorem execMlRadBuild_next {s t : State} (h : execMlRadBuild s = .next t) :
    s.phase = .radBuild ∧
      ((s.streaming = false ∧ t = (s.goto .cmd).returns .none) ∨
        (s.streaming = true ∧ ∃ cks payload, payload.length = s.par.raw.radarFrameBytes ∧
          t = ((s.withEnvelope s.seq cks payload).advanceSeq.goto .radTx).returns .none)) := by
  obtain ⟨hp, hk⟩ := inPhase_next.1 h
  refine ⟨hp, ?_⟩
  split at hk
  · split at hk
    · cases hk
    · rename_i hr
      obtain ⟨-, rfl⟩ := memRead_eq_ok.1 hr
      split at hk
      · cases hk
      · obtain ⟨-, rfl⟩ := putEnvelope_ok ‹_›
        cases hk
        exact .inr ⟨‹_›, _, _, by simp, rfl⟩
  · rename_i hs
    cases hk; exact .inl ⟨by simpa using hs, rfl⟩

theorem execMlRadTx_next {a : TxDraw} {s t : State} (h : execMlRadTx a s = .next t) :
    s.phase = .radTx ∧
      ((s.streaming = false ∧ t = (s.goto .cmd).returns .none) ∨
        (s.streaming = true ∧ ∃ u r, s.Sent a u ∧ t = (u.goto .cmd).returns r)) := by
  obtain ⟨hp, hk⟩ := inPhase_next.1 h
  refine ⟨hp, ?_⟩
  split at hk
  · split at hk
    · cases hk
    · cases hk; exact .inr ⟨‹_›, _, _, sendEnvelope_sent ‹_›, rfl⟩
  · rename_i hs
    cases hk; exact .inl ⟨by simpa using hs, rfl⟩

end Sys2Proof.Machine
end

