-- ==== Sys2Proof/Laws/PerInstr.lean ====
section
/-! SUPPORT. The per-instruction family RecordLength: how many bytes each operation's words are
(30_encoding R99, R91, R96, R98), from its own operands and the situation alone. A trace is cut into
records by these lengths. -/

namespace Sys2Proof.Laws.RecordLength

/-- The number of bytes of an operation's words. -/
def recordLength (c : Ctx) : Instr → Nat
  | .lineDone => 1
  | .frameDone => 1
  | .writeHandle => 1
  | .swap => 1
  | .takeReady => 1
  | .viewRead _ n _ => 9 + (if c.stale then n.toNat else 0)
  | .viewRelease => 1
  | .checksum bytes => 5 + bytes.length
  | .frame _ payload => 6 + payload.length
  | .radarPoll => 1
  | .radarDrain _ _ => 10 + c.par.raw.radarFrameBytes
  | .transmit _ => 6
  | .mlCmd => 1
  | .mlImgTake => 1
  | .mlImgBuild _ => if c.stale then 2 + c.par.raw.imgFrameBytes else 1
  | .mlImgTx _ => if c.streaming then 6 else 1
  | .mlRadPoll => 1
  | .mlRadDrain _ => 6 + c.par.raw.radarFrameBytes
  | .mlRadBuild => 1
  | .mlRadTx _ => 6
  | .capWrite _ _ data => 10 + data.length
  | .radarBurst => 1
  | .hostCmd _ => 2
  | .reset => 1
  | .cmdStart => 1
  | .cmdStop _ => 1
  | .envelope _ _ payload => 8 + payload.length
  | .handoff _ _ => 1

/-- A well-formed operation's words have that length. -/
def Statement (i : Instr) : Prop :=
  ∀ c : Ctx, WellFormed c i = true → (encode c i).length = recordLength c i

theorem le32_len (n : Nat) : (le32 n).length = 4 := rfl

theorem lineDone : Statement .lineDone := fun _ _ => rfl

theorem frameDone : Statement .frameDone := fun _ _ => rfl

theorem writeHandle : Statement .writeHandle := fun _ _ => rfl

theorem swap : Statement .swap := fun _ _ => rfl

theorem takeReady : Statement .takeReady := fun _ _ => rfl

theorem viewRead (off n : U32) (draw : Option (List Byte)) :
    Statement (.viewRead off n draw) := by
  intro c h
  cases draw <;> simp_all [WellFormed, viewDrawOk, encode, le32_len, recordLength]
  omega

theorem viewRelease : Statement .viewRelease := fun _ _ => rfl

theorem checksum (bytes : List Byte) :
    Statement (.checksum bytes) := by
  intro c _
  simp [encode, recordLength, counted, le32_len]
  omega

theorem frame (seq : Byte) (payload : List Byte) :
    Statement (.frame seq payload) := by
  intro c _
  simp [encode, recordLength, counted, le32_len]
  omega

theorem radarPoll : Statement .radarPoll := fun _ _ => rfl

theorem radarDrain (expected : U32) (answer : RadarDraw) :
    Statement (.radarDrain expected answer) := by
  intro c h
  simp_all [WellFormed, encode, recordLength, radarDrawOk, radarBytes, le32_len]
  omega

theorem transmit (answer : TxDraw) :
    Statement (.transmit answer) := by
  intro c _
  simp [encode, recordLength, txBytes, le32_len]

theorem mlCmd : Statement .mlCmd := fun _ _ => rfl

theorem mlImgTake : Statement .mlImgTake := fun _ _ => rfl

theorem mlImgBuild (draw : Option StaleDraw) :
    Statement (.mlImgBuild draw) := by
  intro c h
  cases draw <;> simp_all [WellFormed, staleDrawOk, encode, recordLength]
  omega

theorem mlImgTx (answer : Option TxDraw) :
    Statement (.mlImgTx answer) := by
  intro c h
  cases answer <;> simp_all [WellFormed, encode, le32_len, recordLength, txBytes]

theorem mlRadPoll : Statement .mlRadPoll := fun _ _ => rfl

theorem mlRadDrain (answer : RadarDraw) :
    Statement (.mlRadDrain answer) := by
  intro c h
  simp_all [WellFormed, encode, recordLength, radarDrawOk, radarBytes, le32_len]
  omega

theorem mlRadBuild : Statement .mlRadBuild := fun _ _ => rfl

theorem mlRadTx (answer : TxDraw) :
    Statement (.mlRadTx answer) := by
  intro c _
  simp [encode, recordLength, txBytes, le32_len]

theorem capWrite (slot : Bool) (off : U32) (data : List Byte) :
    Statement (.capWrite slot off data) := by
  intro c _
  simp [encode, recordLength, counted, le32_len]
  omega

theorem radarBurst : Statement .radarBurst := fun _ _ => rfl

theorem hostCmd (byte : Byte) : Statement (.hostCmd byte) := fun _ _ => rfl

theorem reset : Statement .reset := fun _ _ => rfl

theorem cmdStart : Statement .cmdStart := fun _ _ => rfl

theorem cmdStop (cmd : Byte) : Statement (.cmdStop cmd) := fun _ _ => rfl

theorem envelope (seq cks : Byte) (payload : List Byte) :
    Statement (.envelope seq cks payload) := by
  intro c _
  simp [encode, recordLength, envelopeBytes, le32_len]
  omega

theorem handoff (sel rdy : Bool) : Statement (.handoff sel rdy) := fun _ _ => rfl

end Sys2Proof.Laws.RecordLength
end

