-- ==== Sys2Proof/Tests/Slice0.lean ====
section
/-! SUPPORT. Tests. Every expected value is from a vector `T-…` or `S…` of 95_test_vectors.md (named
in the theorem's docstring) or from the encodings of 30_encoding.md; none is the model's own output.
The instance is 95's "instance Q" with the candidate polynomial 8C of its section 2.2. -/

namespace Sys2Proof.Tests

open Sys2Proof.Machine

-- One proof after another: the kernel evaluations below would otherwise wait for each other in
-- threads of their own, each with a large stack.
set_option Elab.async false

/-! ## Helpers -/

/-- Instance Q of 95_test_vectors.md, with CRC_POLY = 8C. -/
def q : ValidParams :=
  { raw :=
      { imgLines := 2, lineBytes := 5, radarSamples := 2, radarSampleBytes := 2, maxPayload := 16
        sync0 := 0x55, sync1 := 0x55, cmdStart := 0x31, crcSeed := 0x15, crcPoly := 0x8C
        txTimeout := 0 }
    valid := by decide }

/-- Instance Q right after reset. -/
def q0 : State := State.resetOf q

def f1 : List Byte := [1, 2, 3, 4, 5, 6, 7, 8, 9, 10]
def f2 : List Byte := [11, 12, 13, 14, 15, 16, 17, 18, 19, 20]
def lineA : List Byte := [0xA1, 0xA2, 0xA3, 0xA4, 0xA5]
def lineB : List Byte := [0xB1, 0xB2, 0xB3, 0xB4, 0xB5]
def burst : List Byte := [0xE1, 0xE2, 0xE3, 0xE4]

/-- HANDOFF set to `0b<SEL><RDY>`. -/
def withHandoff (sel rdy : Bool) (s : State) : State := { s with handoff := ⟨sel, rdy⟩ }

/-- VIEW set, fresh or stale. -/
def withView (v stale : Bool) (s : State) : State := { s with view := some v, viewStale := stale }

/-- STREAMING set. -/
def streamingOn (s : State) : State := { s with streaming := true }

/-- FRAME F1 with sequence 0 already in EB, EB_LEN = 18, in a phase. -/
def withEnvelopeF1 (p : Phase) : State :=
  ((q0.goto p).writeBytes .eb 0
    [0x55, 0x55, 0, 10, 0, 0, 0, 0x27, 1, 2, 3, 4, 5, 6, 7, 8, 9, 10]).setEbLen 18

/-- A view of what an outcome's next state holds. -/
def look {α : Type} (f : State → α) : Host.Outcome State Fault Refusal → Option α
  | .next s => some (f s)
  | _ => none

/-- The refusal an outcome is. -/
def refusal : Host.Outcome State Fault Refusal → Option Refusal
  | .refused r => some r
  | _ => none

/-- Whether an outcome is a next state. -/
def completes : Host.Outcome State Fault Refusal → Bool
  | .next _ => true
  | _ => false

theorem exists_next {o : Host.Outcome State Fault Refusal} (h : completes o = true) :
    ∃ t, o = .next t := by
  cases o with
  | next t => exact ⟨t, rfl⟩
  | fault _ => cases h
  | refused _ => cases h

/-! ## WellFormed refuses an ill-formed operand of each checked kind -/

theorem test_ill_formed_view_read_fresh : WellFormed q0.ctx (.viewRead 0 2 (some [1, 2])) = false := by
  decide

theorem test_ill_formed_view_read_stale :
    WellFormed ⟨q, true, false⟩ (.viewRead 0 2 none) = false ∧
      WellFormed ⟨q, true, false⟩ (.viewRead 0 2 (some [1])) = false := by decide

theorem test_ill_formed_count : fitsU32 4294967296 = false ∧ fitsU32 4294967295 = true := by decide

theorem test_ill_formed_checksum (bs : List Byte) (h : bs.length = 4294967296) :
    WellFormed q0.ctx (.checksum bs) = false ∧ WellFormed q0.ctx (.frame 0 bs) = false ∧
      WellFormed q0.ctx (.capWrite false 0 bs) = false ∧
      WellFormed q0.ctx (.envelope 0 0 bs) = false := by
  simp [WellFormed, fitsU32, h]

theorem test_ill_formed_radar :
    WellFormed q0.ctx (.radarDrain 2 ⟨2, 0, [1, 2, 3]⟩) = false ∧
      WellFormed q0.ctx (.mlRadDrain ⟨2, 0, [1, 2, 3, 4, 5]⟩) = false := by decide

theorem test_ill_formed_img_build :
    WellFormed q0.ctx (.mlImgBuild (some ⟨0x99, f1⟩)) = false ∧
      WellFormed ⟨q, true, false⟩ (.mlImgBuild none) = false ∧
      WellFormed ⟨q, true, false⟩ (.mlImgBuild (some ⟨0x99, lineA⟩)) = false := by decide

theorem test_ill_formed_img_tx :
    WellFormed q0.ctx (.mlImgTx (some ⟨.ok, 0⟩)) = false ∧
      WellFormed ⟨q, false, true⟩ (.mlImgTx none) = false := by decide

theorem test_ill_formed_cmd_stop : WellFormed q0.ctx (.cmdStop 0x31) = false := by decide

/-! ## Every constructor's decoding, from words written out by 30_encoding -/

/-- R99; T-EN-3. -/
theorem test_decode_line_done : decodeRecord q0.ctx [0x01] = .ok (.lineDone, []) := rfl
/-- R99. -/
theorem test_decode_frame_done : decodeRecord q0.ctx [0x02] = .ok (.frameDone, []) := rfl
/-- R99. -/
theorem test_decode_write_handle : decodeRecord q0.ctx [0x03] = .ok (.writeHandle, []) := rfl
/-- R99. -/
theorem test_decode_swap : decodeRecord q0.ctx [0x04] = .ok (.swap, []) := rfl
/-- R99. -/
theorem test_decode_take_ready : decodeRecord q0.ctx [0x05] = .ok (.takeReady, []) := rfl
/-- T-EN-5. -/
theorem test_decode_view_read :
    decodeRecord q0.ctx [0x06, 0x03, 0, 0, 0, 0x04, 0, 0, 0] = .ok (.viewRead 3 4 none, []) := by
  decide
/-- R99: on a stale view the draw follows. -/
theorem test_decode_view_read_stale :
    decodeRecord ⟨q, true, false⟩ [0x06, 0x03, 0, 0, 0, 0x02, 0, 0, 0, 0xD0, 0xD1] =
      .ok (.viewRead 3 2 (some [0xD0, 0xD1]), []) := by decide
/-- R99. -/
theorem test_decode_view_release : decodeRecord q0.ctx [0x07] = .ok (.viewRelease, []) := rfl
/-- T-EN-7. -/
theorem test_decode_checksum :
    decodeRecord q0.ctx [0x08, 0x02, 0, 0, 0, 0xAA, 0x55] = .ok (.checksum [0xAA, 0x55], []) := by decide
/-- T-EN-6. -/
theorem test_decode_frame :
    decodeRecord q0.ctx [0x09, 0x07, 0, 0, 0, 0] = .ok (.frame 0x07 [], []) := by decide
/-- R99. -/
theorem test_decode_radar_poll : decodeRecord q0.ctx [0x0A] = .ok (.radarPoll, []) := rfl
/-- T-EN-8. -/
theorem test_decode_radar_drain :
    decodeRecord q0.ctx [0x0B, 0x02, 0, 0, 0, 0x02, 0, 0, 0, 0, 0xE1, 0xE2, 0xE3, 0xE4] =
      .ok (.radarDrain 2 ⟨2, 0, burst⟩, []) := by decide
/-- T-EN-9. -/
theorem test_decode_transmit :
    decodeRecord q0.ctx [0x0C, 0x02, 0x03, 0, 0, 0] = .ok (.transmit ⟨.timeout, 3⟩, []) := by decide
/-- R99: `0x10 + PHASE`. -/
theorem test_decode_ml_cmd : decodeRecord q0.ctx [0x10] = .ok (.mlCmd, []) := rfl
/-- R99. -/
theorem test_decode_ml_img_take : decodeRecord q0.ctx [0x11] = .ok (.mlImgTake, []) := rfl
/-- R99 and program P6's record of the stale view. -/
theorem test_decode_ml_img_build :
    decodeRecord q0.ctx [0x12] = .ok (.mlImgBuild none, []) ∧
    decodeRecord ⟨q, true, true⟩
      [0x12, 0x99, 0x15, 0x16, 0x17, 0x18, 0x19, 0x06, 0x07, 0x08, 0x09, 0x0A] =
        .ok (.mlImgBuild (some ⟨0x99, [0x15, 0x16, 0x17, 0x18, 0x19, 6, 7, 8, 9, 10]⟩), []) := by
  decide
/-- T-EN-10. -/
theorem test_decode_ml_img_tx :
    decodeRecord ⟨q, false, true⟩ [0x13, 0, 0, 0, 0, 0] = .ok (.mlImgTx (some ⟨.ok, 0⟩), []) ∧
    decodeRecord q0.ctx [0x13] = .ok (.mlImgTx none, []) := by decide
/-- R99. -/
theorem test_decode_ml_rad_poll : decodeRecord q0.ctx [0x14] = .ok (.mlRadPoll, []) := rfl
/-- R99 and program P5's record. -/
theorem test_decode_ml_rad_drain :
    decodeRecord q0.ctx [0x15, 0x02, 0, 0, 0, 0x01, 0xF1, 0xF2, 0xF3, 0xF4] =
      .ok (.mlRadDrain ⟨2, 1, [0xF1, 0xF2, 0xF3, 0xF4]⟩, []) := by decide
/-- R99. -/
theorem test_decode_ml_rad_build : decodeRecord q0.ctx [0x16] = .ok (.mlRadBuild, []) := rfl
/-- R99 and program P4's record. -/
theorem test_decode_ml_rad_tx :
    decodeRecord q0.ctx [0x17, 0x02, 0x03, 0, 0, 0] = .ok (.mlRadTx ⟨.timeout, 3⟩, []) := by decide
/-- T-EN-4. -/
theorem test_decode_cap_write :
    decodeRecord q0.ctx [0x20, 0x01, 0, 0, 0, 0, 0x05, 0, 0, 0, 0x06, 0x07, 0x08, 0x09, 0x0A] =
      .ok (.capWrite true 0 [6, 7, 8, 9, 10], []) := by decide
/-- R99. -/
theorem test_decode_radar_burst : decodeRecord q0.ctx [0x21] = .ok (.radarBurst, []) := rfl
/-- T-EN-11. -/
theorem test_decode_host_cmd : decodeRecord q0.ctx [0x22, 0x31] = .ok (.hostCmd 0x31, []) := rfl
/-- T-EN-12. -/
theorem test_decode_reset : decodeRecord q0.ctx [0x3F] = .ok (.reset, []) := rfl
/-- T-EN-1. -/
theorem test_decode_cmd_start : decodeCommand q.raw 0x31 = .cmdStart := rfl
/-- T-EN-2. -/
theorem test_decode_cmd_stop :
    [0x00, 0x30, 0x32, 0x0A, 0x0D, 0xFF].map (decodeCommand q.raw) =
      [.cmdStop 0x00, .cmdStop 0x30, .cmdStop 0x32, .cmdStop 0x0A, .cmdStop 0x0D, .cmdStop 0xFF] := by
  decide
/-- T-EF-2's bytes, read by R91. -/
theorem test_decode_envelope :
    decodeEnvelope q.raw [0x55, 0x55, 0xFF, 0x01, 0, 0, 0, 0, 0x15] =
      .ok (.envelope 0xFF 0 [0x15], []) := by decide
/-- T-EN-15: `00 B0 04 00` is 307200. -/
theorem test_length_field : unle32 0x00 0xB0 0x04 0x00 = 307200 := by decide
/-- T-EN-14. -/
theorem test_decode_handoff :
    [0x00, 0x01, 0x02, 0x03].map decodeHandoff =
      [.ok (.handoff false false), .ok (.handoff false true), .ok (.handoff true false),
        .ok (.handoff true true)] := by decide
/-- T-EN-13, and R98's "all higher bits 0". -/
theorem test_decode_refuses :
    [0x00, 0x0D, 0x0E, 0x0F, 0x18, 0x1F, 0x23, 0x3E, 0x40, 0xFF].map
        (fun c => decodeRecord q0.ctx [c]) =
      [0x00, 0x0D, 0x0E, 0x0F, 0x18, 0x1F, 0x23, 0x3E, 0x40, 0xFF].map
        (fun c => .error (.unknownOpsel c)) ∧
    decodeHandoff 0x04 = .error .badLayout := by decide
/-- A cut record; an `outcome` and a `slot` that are none of the values R225 and R161 give. -/
theorem test_decode_bad_operands :
    decodeRecord q0.ctx [0x08, 0x02, 0, 0, 0, 0xAA] = .error .truncated ∧
    decodeRecord q0.ctx [0x0C, 0x03, 0, 0, 0, 0] = .error .badOperand ∧
    decodeRecord q0.ctx [0x20, 0x02, 0, 0, 0, 0, 0, 0, 0, 0] = .error .badOperand := by decide

/-- The opcode table's words: a record with zero operands, a command byte, an envelope header as R91
writes it (byte 0 leftmost; T-EF-1), the control word. -/
theorem test_table_words :
    decodeTableWord 8 0x06 = some (.viewRead 0 0 none) ∧ decodeTableWord 8 0x31 = some .cmdStart ∧
    decodeTableWord 64 0x5555070000000015 = some (.envelope 0x07 0x15 []) ∧
    decodeTableWord 2 2 = some (.handoff true false) := by
  decide +kernel

/-! ## One step of each operation -/

/-- T-CU-1, T-CU-2, T-CU-5. -/
theorem test_checksum_seed :
    checksum q.raw [] = 0x15 ∧ checksum q.raw [0x15] = 0 ∧ checksum q.raw [0x95] = 0x8C := by decide
/-- Section 2.2, column 8C. -/
theorem test_checksum_f1 :
    look (·.ret) (exec (.checksum f1) q0) = some (.byte 0x27) ∧
    look (·.ret) (exec (.checksum [0x31, 0x32, 0x33, 0x34, 0x35, 0x36, 0x37, 0x38, 0x39]) q0) =
      some (.byte 0x1D) := by decide +kernel
/-- T-AR-1, T-AR-5, T-AR-6, T-AR-7, T-AR-10. -/
theorem test_arithmetic :
    add8 0xFF 1 = 0 ∧ sat16Inc 65534 = 65535 ∧ sat16Inc 65535 = 65535 ∧ add32 0xFFFFFFFF 1 = 0 ∧
    le32 0x01020304 = [4, 3, 2, 1] := by decide

/-- T-FBP-10's second operation. -/
theorem test_write_handle :
    look (·.ret) (exec .writeHandle (withHandoff true true q0)) = some (.handle true) := by decide +kernel
/-- T-FBP-1 to T-FBP-4. -/
theorem test_swap :
    [(false, false), (true, true), (true, false), (false, true)].map
        (fun h => look (·.handoff) (exec .swap (withHandoff h.1 h.2 q0))) =
      [some ⟨true, true⟩, some ⟨false, true⟩, some ⟨false, true⟩, some ⟨true, true⟩] := by
  decide +kernel
/-- T-FBP-13. -/
theorem test_swap_marks_the_view :
    look (fun t => (t.handoff, t.view, t.viewStale))
      (exec .swap (withView false false (withHandoff true false q0))) =
        some (⟨false, true⟩, some false, true) := by decide +kernel
/-- T-FBP-5, T-FBP-7, T-FBP-8. -/
theorem test_take_ready :
    [(false, false), (true, true), (false, true)].map
        (fun h => look (fun t => (t.ret, t.handoff, t.view))
          (exec .takeReady (withHandoff h.1 h.2 q0))) =
      [some (.notReady, ⟨false, false⟩, none), some (.ready false, ⟨true, false⟩, some false),
        some (.ready true, ⟨false, false⟩, some true)] := by decide +kernel
/-- T-FBP-15, T-FBP-21. -/
theorem test_take_ready_with_a_view :
    look (fun t => (t.ret, t.view, t.viewStale))
      (exec .takeReady (withView false true (withHandoff false true q0))) =
        some (.ready true, some true, false) ∧
    look (fun t => (t.ret, t.view))
      (exec .takeReady (withView false false (withHandoff true false q0))) =
        some (.notReady, some false) := by decide +kernel
/-- T-FBP-17 to T-FBP-20. -/
theorem test_view_read :
    let s := (withView false false q0).writeBytes (.fb false) 0 f1
    refusal (exec (.viewRead 0 1 none) q0) = some .noView ∧
    refusal (exec (.viewRead 8 3 none) s) = some .outOfRange ∧
    look (·.ret) (exec (.viewRead 3 4 none) s) = some (.bytes [4, 5, 6, 7]) ∧
    look (·.ret) (exec (.viewRead 10 0 none) s) = some (.bytes []) := by decide +kernel
/-- T-FBP-14. -/
theorem test_view_read_stale :
    look (·.ret) (exec (.viewRead 0 10 (some f2)) (withView false true q0)) = some (.bytes f2) := by
  decide +kernel
/-- T-FBP-16. -/
theorem test_view_release :
    look (fun t => (t.view, t.viewStale, t.handoff))
      (exec .viewRelease (withView false true (withHandoff false true q0))) =
        some (none, false, ⟨false, true⟩) := by decide +kernel

/-- T-CSM-1's CAP_WRITE; T-CSM-14. -/
theorem test_cap_write :
    look (fun t => t.readBytes (.lb false) 0 5) (exec (.capWrite false 0 lineA) q0) = some lineA ∧
    refusal (exec (.capWrite false 3 [1, 2, 3]) q0) = some .outOfRange := by decide +kernel
/-- T-CSM-2's LINE_DONE. -/
theorem test_line_done :
    look (fun t => (t.readBytes (.fb false) 5 5, t.lineIdx, t.lbSlot))
      (exec .lineDone ({ q0 with lineIdx := 1, lbSlot := true }.writeBytes (.lb true) 0 lineB)) =
        some (lineB, 2, false) := by decide +kernel
/-- T-CSM-9. -/
theorem test_line_done_saturates :
    look (fun t => (t.lineIdx, t.lbSlot, t.store)) (exec .lineDone { q0 with lineIdx := 65535 }) =
      some (65535, true, q0.store) := by decide +kernel
/-- T-CSM-3, T-CSM-16. -/
theorem test_frame_done_good :
    look (fun t => (t.handoff, t.lineIdx, t.diaglog)) (exec .frameDone { q0 with lineIdx := 2 }) =
      some (⟨true, true⟩, 0, []) ∧
    look (·.handoff) (exec .frameDone (withHandoff true true { q0 with lineIdx := 2 })) =
      some ⟨false, true⟩ := by decide +kernel
/-- T-CSM-4, T-CSM-6, T-CSM-7. -/
theorem test_frame_done_malformed :
    ([1, 3, 0] : List (BitVec 16)).map
        (fun n => look (fun t => (t.handoff, t.diaglog)) (exec .frameDone { q0 with lineIdx := n })) =
      ([1, 3, 0] : List Nat).map
        (fun n => some (⟨false, false⟩, [⟨.malformedFrame, .count n⟩])) := by decide +kernel

/-- T-RAA-1 to T-RAA-3. -/
theorem test_radar_burst_and_poll :
    look (·.avail) (exec .radarBurst q0) = some true ∧
    look (·.avail) (exec .radarBurst { q0 with avail := true }) = some true ∧
    look (·.ret) (exec .radarPoll q0) = some (.bit false) ∧
    look (fun t => (t.ret, t.avail)) (exec .radarPoll { q0 with avail := true }) =
      some (.bit true, true) := by decide +kernel
/-- T-RAA-4, T-RAA-7. -/
theorem test_radar_drain :
    look (fun t => (t.ret, t.avail, t.readBytes .rb 0 4))
      (exec (.radarDrain 2 ⟨2, 0, burst⟩) { q0 with avail := true }) = some (.ok, false, burst) ∧
    look (fun t => (t.ret, t.avail, t.readBytes .rb 0 4))
      (exec (.radarDrain 2 ⟨2, 1, burst⟩) { q0 with avail := true }) =
        some (.raised ⟨.hardwareFault, .none⟩, false, burst) := by decide +kernel
/-- R182's pseudocode raises for `fault` = 1 and for no other byte: the least and the greatest above 1. -/
theorem test_radar_drain_other_fault :
    ([2, 255] : List Byte).map (fun fault => look (fun t => (t.ret, t.avail, t.readBytes .rb 0 4))
      (exec (.radarDrain 2 ⟨2, fault, burst⟩) { q0 with avail := true })) =
        [some (.ok, false, burst), some (.ok, false, burst)] := by decide +kernel
/-- T-RAA-5, T-RAA-6, T-RAA-8. -/
theorem test_radar_drain_size_mismatch :
    let s := { q0 with avail := true }.writeBytes .rb 0 burst
    [((2 : U32), (3 : U32), (0 : Byte)), (3, 2, 0), (2, 3, 1)].map
        (fun x => look (fun t => (t.ret, t.avail, t.readBytes .rb 0 4))
          (exec (.radarDrain x.1 ⟨x.2.1, x.2.2, [1, 2, 3, 4]⟩) s)) =
      [some (.raised ⟨.sizeMismatch, .sizes 2 3⟩, false, burst),
        some (.raised ⟨.sizeMismatch, .sizes 3 2⟩, false, burst),
        some (.raised ⟨.sizeMismatch, .sizes 2 3⟩, false, burst)] := by decide +kernel

/-- T-EF-1, T-EF-3. -/
theorem test_frame :
    look (fun t => (t.ret, t.ebLen)) (exec (.frame 0x07 []) q0) =
      some (.bytes [0x55, 0x55, 0x07, 0, 0, 0, 0, 0x15], 8) ∧
    look (fun t => (t.readBytes .eb 0 18, t.ebLen, t.seq)) (exec (.frame 0 f1) q0) =
      some ([0x55, 0x55, 0, 10, 0, 0, 0, 0x27, 1, 2, 3, 4, 5, 6, 7, 8, 9, 10], 18, 0) := by
  decide +kernel
/-- T-EF-7, T-EF-8; the refusal records the length (R260, code 7). -/
theorem test_frame_size :
    refusal (exec (.frame 0 (List.replicate 17 0)) q0) =
      some (.payloadTooLarge ⟨.payloadTooLarge, .length 17⟩) ∧
    look (·.ebLen) (exec (.frame 0 (List.replicate 16 0)) q0) = some 24 := by decide +kernel
/-- R91's layout, with a checksum byte that matches nothing (P6's first envelope). -/
theorem test_envelope :
    look (fun t => (t.readBytes .eb 0 10, t.ebLen)) (exec (.envelope 5 0x99 [0x15, 0x16]) q0) =
      some ([0x55, 0x55, 5, 2, 0, 0, 0, 0x99, 0x15, 0x16], 10) := by decide +kernel

/-- T-SC-25, one record of it. -/
theorem test_host_cmd :
    look (fun t => (t.cmdq, t.streaming)) (exec (.hostCmd 0x31) { q0 with cmdq := [0x30] }) =
      some ([0x30, 0x31], false) := by decide +kernel
/-- R96. -/
theorem test_commands :
    look (fun t => (t.streaming, t.sendCnt)) (exec .cmdStart { q0 with sendCnt := 9 }) =
      some (true, 0) ∧
    look (fun t => (t.streaming, t.sendCnt))
      (exec (.cmdStop 0x30) { q0 with streaming := true, sendCnt := 9 }) = some (false, 9) := by
  decide +kernel
/-- T-SC-3, T-SC-24. -/
theorem test_ml_cmd_start :
    look (fun t => (t.streaming, t.sendCnt, t.seq, t.phase))
      (exec .mlCmd { q0 with cmdq := [0x31], streaming := true, sendCnt := 9, seq := 0x42 }) =
        some (true, 0, 0x42, .imgTake) ∧
    refusal (exec .mlCmd (q0.goto .imgTake)) = some .wrongPhase := by decide +kernel
/-- T-SC-4. -/
theorem test_ml_cmd_stop :
    look (fun t => (t.streaming, t.cmdq))
      (exec .mlCmd { q0 with cmdq := [0x30, 0x31], streaming := true }) =
        some (false, [0x31]) := by decide +kernel
/-- T-SC-6, T-SC-7. -/
theorem test_ml_img_take :
    look (fun t => (t.handoff, t.view, t.phase))
      (exec .mlImgTake (withHandoff true true (q0.goto .imgTake))) =
        some (⟨true, false⟩, some false, .imgBuild) ∧
    look (fun t => (t.handoff, t.view, t.phase))
      (exec .mlImgTake (withHandoff true false (q0.goto .imgTake))) =
        some (⟨true, false⟩, none, .radPoll) := by decide +kernel
/-- T-SC-8. -/
theorem test_ml_img_build :
    look (fun t => (t.readBytes .eb 0 18, t.ebLen, t.seq, t.view, t.phase))
      (exec (.mlImgBuild none)
        ({ withView false false (q0.goto .imgBuild) with seq := 0xFF }.writeBytes (.fb false) 0 f1)) =
      some ([0x55, 0x55, 0xFF, 10, 0, 0, 0, 0x27, 1, 2, 3, 4, 5, 6, 7, 8, 9, 10], 18, 0, none,
        .imgTx) := by decide +kernel
/-- T-SC-9. -/
theorem test_ml_img_build_stale :
    look (fun t => (t.readBytes .eb 0 18, t.seq, t.view, t.viewStale))
      (exec (.mlImgBuild (some ⟨0x99, [0x15, 0x16, 0x17, 0x18, 0x19, 6, 7, 8, 9, 10]⟩))
        { withView false true (q0.goto .imgBuild) with seq := 5 }) =
      some ([0x55, 0x55, 5, 10, 0, 0, 0, 0x99, 0x15, 0x16, 0x17, 0x18, 0x19, 6, 7, 8, 9, 10], 6,
        none, false) := by decide +kernel
/-- T-SC-10, T-SC-11. -/
theorem test_ml_img_tx :
    look (fun t => (t.txlog, t.phase)) (exec (.mlImgTx none) (withEnvelopeF1 .imgTx)) =
      some ([], .radPoll) ∧
    look (fun t => (t.txlog, t.sendCnt, t.phase))
      (exec (.mlImgTx (some ⟨.ok, 0⟩)) (streamingOn (withEnvelopeF1 .imgTx))) =
      some ([0x55, 0x55, 0, 10, 0, 0, 0, 0x27, 1, 2, 3, 4, 5, 6, 7, 8, 9, 10], 1, .radPoll) := by
  decide +kernel
/-- T-SC-12 to T-SC-15. -/
theorem test_ml_img_tx_failures :
    let s := streamingOn (withEnvelopeF1 .imgTx)
    look (fun t => (t.txlog, t.streaming, t.sendCnt)) (exec (.mlImgTx (some ⟨.writeFailure, 0⟩)) s) =
      some ([], false, 0) ∧
    look (fun t => (t.txlog, t.streaming)) (exec (.mlImgTx (some ⟨.timeout, 7⟩)) s) =
      some ([0x55, 0x55, 0, 10, 0, 0, 0], false) ∧
    look (fun t => (t.txlog.length, t.streaming, t.diaglog))
      (exec (.mlImgTx (some ⟨.writeFailure, 18⟩)) s) = some (18, false, []) ∧
    refusal (exec (.mlImgTx (some ⟨.timeout, 19⟩)) s) = some .deliveredOutOfRange := by
  decide +kernel
/-- R225 outside the loop: the same transmit, with its result. -/
theorem test_transmit :
    look (fun t => (t.ret, t.sendCnt, t.txlog.length)) (exec (.transmit ⟨.ok, 0⟩) (withEnvelopeF1 .cmd)) =
      some (.ok, 1, 18) ∧
    look (fun t => (t.ret, t.txlog)) (exec (.transmit ⟨.timeout, 3⟩) (withEnvelopeF1 .cmd)) =
      some (.raised ⟨.transportTimeout, .none⟩, [0x55, 0x55, 0]) := by decide +kernel
/-- T-SC-16, T-SC-17. -/
theorem test_ml_rad_poll :
    look (·.phase) (exec .mlRadPoll (q0.goto .radPoll)) = some .cmd ∧
    look (fun t => (t.phase, t.avail)) (exec .mlRadPoll { q0.goto .radPoll with avail := true }) =
      some (.radDrain, true) := by decide +kernel
/-- T-SC-18. -/
theorem test_ml_rad_drain :
    look (fun t => (t.readBytes .rb 0 4, t.avail, t.phase))
      (exec (.mlRadDrain ⟨2, 0, burst⟩) { q0.goto .radDrain with avail := true }) =
        some (burst, false, .radBuild) := by decide +kernel
/-- T-SC-19, T-SC-20. -/
theorem test_ml_rad_drain_errors :
    look (fun t => (t.diaglog, t.avail, t.phase, t.seq))
      (exec (.mlRadDrain ⟨3, 0, burst⟩) { q0.goto .radDrain with avail := true, seq := 3 }) =
        some ([⟨.sizeMismatch, .sizes 2 3⟩], false, .cmd, 3) ∧
    look (fun t => (t.diaglog, t.avail, t.phase))
      (exec (.mlRadDrain ⟨2, 1, burst⟩) { q0.goto .radDrain with avail := true }) =
        some ([⟨.hardwareFault, .none⟩], false, .cmd) := by decide +kernel
/-- T-SC-21, T-SC-22 (the checksum of E1 E2 E3 E4 is 5F in column 8C). -/
theorem test_ml_rad_build :
    let s := { q0.goto .radBuild with seq := 3 }.writeBytes .rb 0 burst
    look (fun t => (t.phase, t.seq, t.ebLen)) (exec .mlRadBuild s) = some (.cmd, 3, 0) ∧
    look (fun t => (t.readBytes .eb 0 12, t.ebLen, t.seq, t.phase)) (exec .mlRadBuild (streamingOn s)) =
      some ([0x55, 0x55, 3, 4, 0, 0, 0, 0x5F, 0xE1, 0xE2, 0xE3, 0xE4], 12, 4, .radTx) := by
  decide +kernel
/-- T-SC-23, here with the 18-byte envelope. -/
theorem test_ml_rad_tx :
    look (fun t => (t.txlog.length, t.sendCnt, t.phase))
      (exec (.mlRadTx ⟨.ok, 0⟩) (streamingOn (withEnvelopeF1 .radTx))) = some (18, 1, .cmd) := by
  decide +kernel
/-- T-RS-1. -/
theorem test_reset :
    let s : State := { q0 with handoff := ⟨true, true⟩, seq := 7, phase := .radTx, txlog := [1] }
    look (fun t => (t.handoff, t.seq, t.phase, t.txlog)) (exec .reset s) =
      some (⟨false, false⟩, 0, .cmd, []) := by decide +kernel
/-- The opcode table's note on HANDOFF. -/
theorem test_handoff : refusal (exec (.handoff true false) q0) = some .notAnOperation := rfl

/-- Program P4's text form of one record, and the pseudo-operation LINE (R104). -/
theorem test_text_form :
    instrText (.mlRadDrain ⟨2, 0, burst⟩) = "ML_RAD_DRAIN 2 0 E1 E2 E3 E4" ∧
    lineOps true lineB = [.capWrite true 0 lineB, .lineDone] := by decide +kernel

/-- A step takes one record off the trace and performs it (T-SC-25); with none pending the CONSUMER
moves (T-SC-26's first step). -/
theorem test_step :
    look (fun t => (t.cmdq, t.trace)) (step (q0.setTrace [0x22, 0x31, 0x04])) =
      some ([0x31], [0x04]) ∧
    look (fun t => (t.phase, t.trace)) (step q0) = some (.imgTake, []) := by decide +kernel

/-- The table's words run as the next operation: ML_IMG_TAKE in its phase (T-SC-7), the command byte
31 through ML_CMD (T-SC-2); the control word is no record. -/
theorem test_fetch_word :
    look (·.phase) (step (q0.withFetchWord 8 0x11)) = some .radPoll ∧
    look (fun t => (t.streaming, t.cmdq)) (step (q0.withFetchWord 8 0x31)) = some (true, []) ∧
    refusal (step (q0.withFetchWord 2 1)) = some (.unknownOpsel 0) := by decide +kernel

/-! ## Witnesses: for every statement with hypotheses, a state and operands that meet them -/

/-- The collaborators, all up or all but the radar. -/
def collaborators (radar : Bool) : Collaborators := ⟨true, true, radar, true⟩

/-- FB[0] = F1 and a view of it, fresh or stale. -/
def viewing (stale : Bool) : State := (withView false stale q0).writeBytes (.fb false) 0 f1

/-- In the middle of a run: an envelope in EB, a fragment of it sent, a transmit record pending. -/
def midRun : State :=
  { streamingOn (withEnvelopeF1 .imgTx) with
    txlog := [0x55, 0x55, 0]
    trace := [0x13, 0x02, 0x07, 0, 0, 0] }

theorem midRun_inv : midRun.Inv := by
  refine ⟨?_, .inr (by decide), nofun, nofun⟩
  rintro (_ | _ | _ | _) <;> (try cases ‹Bool›) <;> decide +kernel

theorem test_witness_ChecksumIsLinear : ([0x01, 0xFF] : List Byte).length = [0x10, 0x00].length := rfl

theorem test_witness_ChecksumDetectsAChangedByte :
    q.raw.crcPoly.getLsbD 7 = true ∧ (0x00 : Byte) ≠ 0x80 := by decide

/-- Both values of RDY. -/
theorem test_witness_SwapAndTakeReadyInEitherOrder :
    q0.view = none ∧ q0.handoff.rdy = false ∧ (withHandoff true true q0).view = none ∧
      (withHandoff true true q0).handoff.rdy = true := by decide +kernel

/-- After a TAKE_READY, with a malformed frame in between; and after reset. -/
theorem test_witness_SecondTakeReadyFindsNothing :
    (∃ t u, exec .takeReady (withHandoff true true q0) = .next t ∧
      NoSwap [.lineDone, .frameDone] t ∧ execAll [.lineDone, .frameDone] t = .next u) ∧
    NoSwap [] State.reset ∧ execAll [] State.reset = .next State.reset :=
  ⟨⟨_, _, rfl, ⟨rfl, fun s1 h => ⟨by cases h; rfl, fun _ _ => trivial⟩⟩, rfl⟩, trivial, rfl⟩

/-- SWAP, a complete and a malformed FRAME_DONE, a TAKE_READY and a LINE_DONE. -/
theorem test_witness_OnlySwapAndTakeReadyWriteTheHandoff :
    (∃ t, exec .swap q0 = .next t) ∧ swapsIn q0 .swap = true ∧
    (∃ t, exec .frameDone { q0 with lineIdx := 2 } = .next t) ∧
    swapsIn { q0 with lineIdx := 2 } .frameDone = true ∧
    (∃ t, exec .frameDone { q0 with lineIdx := 1 } = .next t) ∧
    swapsIn { q0 with lineIdx := 1 } .frameDone = false ∧
    (∃ t, exec .takeReady q0 = .next t) ∧ swapsIn q0 .takeReady = false ∧
    (∃ t, exec .lineDone q0 = .next t) ∧ swapsIn q0 .lineDone = false :=
  ⟨⟨_, rfl⟩, rfl, ⟨_, rfl⟩, rfl, ⟨_, rfl⟩, rfl, ⟨_, rfl⟩, rfl, exists_next (by decide +kernel), rfl⟩

/-- No view; the range that ends at the frame's last byte, on a fresh and on a stale view. -/
theorem test_witness_ViewReadReturnsTheViewsBytes :
    q0.view = none ∧ (viewing false).view = some false ∧ (viewing false).viewStale = false ∧
    (3 : U32).toNat + (7 : U32).toNat = (viewing false).par.raw.imgFrameBytes ∧
    (viewing true).view = some false ∧ (viewing true).viewStale = true ∧
    ([1, 2, 3, 4, 5, 6, 7] : List Byte).length = (7 : U32).toNat := by decide +kernel

/-- One byte past the frame; and PH_IMG_BUILD with no view. -/
theorem test_witness_AReadOutsideTheFrameIsRefused :
    (viewing false).view ≠ none ∧
    (viewing false).par.raw.imgFrameBytes + 1 = (3 : U32).toNat + (8 : U32).toNat ∧
    (q0.goto .imgBuild).phase = .imgBuild ∧ (q0.goto .imgBuild).view = none ∧
    (q0.goto .imgBuild).viewStale = false := by decide +kernel

/-- A write that ends at the line buffer's last byte, and one that ends one byte past it. -/
theorem test_witness_CaptureWriteStoresItsBytes :
    (2 : U32).toNat + [(1 : Byte), 2, 3].length = q0.par.raw.lineBytes ∧
    q0.par.raw.lineBytes + 1 = (3 : U32).toNat + [(1 : Byte), 2, 3].length := by decide +kernel

/-- From IDLE; the counts 1, 2 and 3 fall under the three cases of S7 and S8. -/
theorem test_witness_OnlyTheExpectedLineCountSwaps :
    q0.lineIdx = 0 ∧ q0.par.raw.imgLines = 2 := by decide +kernel

/-- Operations between the swap and the take, and between the take and the read. -/
theorem test_witness_ACapturedFrameIsReadBackWhole :
    (withHandoff true true q0).lineIdx = 0 ∧
    f2.length = (withHandoff true true q0).par.raw.imgFrameBytes ∧
    [Instr.radarBurst].all leavesReady = true ∧ [Instr.lineDone].all leavesView = true ∧
    ∃ t u v, execAll (goodFrameOps (withHandoff true true q0) f2) (withHandoff true true q0) = .next t ∧
      NoSwap [.radarBurst] t ∧ execAll [.radarBurst] t = .next u ∧
      exec .takeReady u = .next v ∧ NoSwap [.lineDone] v ∧
      ∃ w, execAll [.lineDone] v = .next w := by
  obtain ⟨t, ht⟩ := exists_next (o := execAll (goodFrameOps (withHandoff true true q0) f2)
    (withHandoff true true q0)) (by decide +kernel)
  exact ⟨rfl, by decide, rfl, rfl, t, _, _, ht, ⟨rfl, fun _ _ => trivial⟩, rfl, rfl,
    ⟨rfl, fun _ _ => trivial⟩, exists_next (by simp only [execAll, exec, execLineDone_eq]; rfl)⟩

/-- A matching and a mismatching count, and both values of `fault`. -/
theorem test_witness_RadarDrainClearsTheLatchFirst :
    burst.length = q0.par.raw.radarFrameBytes ∧ (2 : U32) = (⟨2, 0, burst⟩ : RadarDraw).spf ∧
    (2 : U32) ≠ (⟨3, 1, burst⟩ : RadarDraw).spf := by decide +kernel

theorem test_witness_ABurstBeforeTheDrainIsLost :
    burst.length = q0.par.raw.radarFrameBytes := by decide

/-- A payload of MAX_PAYLOAD bytes, and one byte more (T-EF-7, T-EF-8). -/
theorem test_witness_FrameBuildsTheEnvelope :
    (List.replicate 16 (0 : Byte)).length ≤ q0.par.raw.maxPayload ∧
    q0.par.raw.maxPayload < (List.replicate 17 (0 : Byte)).length := by decide

theorem test_witness_EnvelopesAreInjective :
    f1.length ≤ q.raw.maxPayload ∧ frameBytes q.raw f1 3 = frameBytes q.raw f1 3 := by decide +kernel

theorem test_witness_AnOversizedPayloadIsRefused :
    q0.par.raw.maxPayload < (List.replicate 17 (0 : Byte)).length := by decide

theorem test_witness_AnEnvelopeRowIsHeldInEb :
    (List.replicate 16 (0 : Byte)).length ≤ q0.par.raw.maxPayload := by decide

/-- The neighbours of 49. -/
theorem test_witness_OneByteStartsAndEveryOtherStops :
    (0x30 : Byte) ≠ q0.par.raw.cmdStart ∧ (0x32 : Byte) ≠ q0.par.raw.cmdStart := by decide

/-- No command; a start command; a stop command. -/
theorem test_witness_MlCmdPerformsOneCommandByte :
    q0.phase = .cmd ∧ q0.cmdq = [] ∧ (q0.pushCmd 0x31).phase = .cmd ∧
    (q0.pushCmd 0x31).cmdq = 0x31 :: [] ∧ (0x31 : Byte) = q0.par.raw.cmdStart ∧
    (q0.pushCmd 0x30).cmdq = 0x30 :: [] ∧ (0x30 : Byte) ≠ q0.par.raw.cmdStart := by decide +kernel

theorem test_witness_MlImgTakePollsTheBufferPair :
    (q0.goto .imgTake).phase = .imgTake ∧
      (withHandoff true true (q0.goto .imgTake)).phase = .imgTake := by decide +kernel

/-- A fresh view and a stale one. -/
theorem test_witness_MlImgBuildFramesTheTakenFrame :
    ((viewing false).goto .imgBuild).phase = .imgBuild ∧
    ((viewing false).goto .imgBuild).view = some false ∧
    ((viewing false).goto .imgBuild).viewStale = false ∧
    ((viewing true).goto .imgBuild).phase = .imgBuild ∧
    ((viewing true).goto .imgBuild).viewStale = true ∧
    (⟨0x99, f2⟩ : StaleDraw).payload.length = (viewing true).par.raw.imgFrameBytes := by
  decide +kernel

/-- `Ok` with a `delivered` that is not used, a failure at `delivered` = EB_LEN, and STREAMING = 0. -/
theorem test_witness_MlImgTxSendsOnlyWhileStreaming :
    midRun.phase = .imgTx ∧ midRun.ebLen ≤ midRun.par.raw.maxPayload + 8 ∧ midRun.streaming = true ∧
    TxAllowed midRun ⟨.ok, 99⟩ ∧ TxAllowed midRun ⟨.writeFailure, 18⟩ ∧
    (withEnvelopeF1 .imgTx).phase = .imgTx ∧ (withEnvelopeF1 .imgTx).streaming = false := by
  refine ⟨rfl, by decide, rfl, .inl rfl, .inr (by decide), rfl, rfl⟩

/-- EB full to its last byte, and a failure at `delivered` = EB_LEN. -/
theorem test_witness_TransmitDeliversOrStopsStreaming :
    (q0.setEbLen 24).ebLen ≤ (q0.setEbLen 24).par.raw.maxPayload + 8 ∧
    TxAllowed (q0.setEbLen 24) ⟨.ok, 0⟩ ∧ TxAllowed (q0.setEbLen 24) ⟨.timeout, 24⟩ := by
  refine ⟨by decide, .inl rfl, .inr (by decide)⟩

/-- One byte more than the envelope (T-SC-15), in both transmit phases. -/
theorem test_witness_AFailedTransmitDeliversAtMostTheEnvelope :
    (⟨.timeout, 19⟩ : TxDraw).outcome ≠ .ok ∧
    midRun.ebLen + 1 = (⟨.timeout, 19⟩ : TxDraw).delivered.toNat ∧
    midRun.phase = .imgTx ∧ midRun.streaming = true ∧ (midRun.goto .radTx).phase = .radTx ∧
    (midRun.goto .radTx).streaming = true ∧ (midRun.goto .radTx).ebLen = 18 := by decide +kernel

theorem test_witness_MlRadPollFollowsTheLatch :
    (q0.goto .radPoll).phase = .radPoll ∧ ((q0.goto .radPoll).setAvail true).phase = .radPoll := by
  decide +kernel

/-- RADAR_SAMPLES = 2 against 2 and 3. -/
theorem test_witness_MlRadDrainLogsAndContinues :
    (q0.goto .radDrain).phase = .radDrain ∧ burst.length = q0.par.raw.radarFrameBytes ∧
    q0.par.raw.radarSamples = (⟨2, 1, burst⟩ : RadarDraw).spf.toNat ∧
    q0.par.raw.radarSamples ≠ (⟨3, 0, burst⟩ : RadarDraw).spf.toNat := by decide +kernel

theorem test_witness_MlRadBuildFramesOnlyWhileStreaming :
    (q0.goto .radBuild).phase = .radBuild ∧ (q0.goto .radBuild).streaming = false ∧
    (streamingOn (q0.goto .radBuild)).phase = .radBuild ∧
    (streamingOn (q0.goto .radBuild)).streaming = true := by decide +kernel

theorem test_witness_MlRadTxSendsAndEndsTheIteration :
    (midRun.goto .radTx).phase = .radTx ∧ (midRun.goto .radTx).streaming = true ∧
    (midRun.goto .radTx).ebLen ≤ (midRun.goto .radTx).par.raw.maxPayload + 8 ∧
    TxAllowed (midRun.goto .radTx) ⟨.timeout, 18⟩ ∧
    (withEnvelopeF1 .radTx).phase = .radTx ∧ (withEnvelopeF1 .radTx).streaming = false := by
  refine ⟨rfl, rfl, by decide, .inr (by decide), rfl, rfl⟩

/-- A draw on a fresh view, a short one on a stale view, three radar bytes, a superfluous and a missing
transport answer. -/
theorem test_witness_ADrawThatDoesNotFitIsRefused :
    (viewing false).view ≠ none ∧
    (0 : U32).toNat + (10 : U32).toNat ≤ (viewing false).par.raw.imgFrameBytes ∧
    viewDrawOk (viewing false).viewStale 10 (some f1) = false ∧
    viewDrawOk (viewing true).viewStale 10 (some lineA) = false ∧
    (⟨2, 0, [1, 2, 3]⟩ : RadarDraw).data.length ≠ q0.par.raw.radarFrameBytes ∧
    (q0.goto .radDrain).phase = .radDrain ∧
    ((viewing true).goto .imgBuild).phase = .imgBuild ∧
    staleDrawOk ((viewing true).goto .imgBuild).ctx none = false ∧
    midRun.phase = .imgTx ∧ (none : Option TxDraw).isSome ≠ midRun.streaming ∧
    (withEnvelopeF1 .imgTx).phase = .imgTx ∧
    (some (⟨.ok, 0⟩ : TxDraw)).isSome ≠ (withEnvelopeF1 .imgTx).streaming := by decide +kernel

/-- The first and the last phase's operation, each in another phase. -/
theorem test_witness_AnMlOperationOutOfPhaseIsRefused :
    (encode (q0.goto .imgTake).ctx .mlCmd).head? = some (0x10 + (0 : BitVec 3).zeroExtend 8) ∧
    Instr.mlCmd.format = .opsel ∧ (q0.goto .imgTake).phase ≠ Phase.ofCode 0 ∧
    (encode q0.ctx (.mlRadTx ⟨.ok, 0⟩)).head? = some (0x10 + (7 : BitVec 3).zeroExtend 8) ∧
    (Instr.mlRadTx ⟨.ok, 0⟩).format = .opsel ∧ q0.phase ≠ Phase.ofCode 7 := by decide +kernel

/-- ML_IMG_BUILD, ML_RAD_BUILD while streaming (SEQ = FF wraps) and while not. -/
theorem test_witness_SeqAdvancesOncePerEnvelopeBuilt :
    (∃ t, exec (.mlImgBuild none) ((viewing false).goto .imgBuild) = .next t) ∧
    buildsIn ((viewing false).goto .imgBuild) (.mlImgBuild none) = true ∧
    (∃ t, exec .mlRadBuild { streamingOn (q0.goto .radBuild) with seq := 0xFF } = .next t) ∧
    buildsIn { streamingOn (q0.goto .radBuild) with seq := 0xFF } .mlRadBuild = true ∧
    (∃ t, exec .mlRadBuild (q0.goto .radBuild) = .next t) ∧
    buildsIn (q0.goto .radBuild) .mlRadBuild = false :=
  ⟨exists_next (by decide +kernel), rfl, exists_next (by decide +kernel), rfl, ⟨_, rfl⟩, rfl⟩

/-- ML_CMD pops a stop command, and a start command is queued after it and not popped. -/
theorem test_witness_NothingIsSentBeforeAStart :
    (q0.pushCmd 0x30).streaming = false ∧ (q0.pushCmd 0x30).txlog = [] ∧
    Instr.reset ∉ [Instr.mlCmd, .hostCmd 0x31, .mlImgTake, .mlRadPoll] ∧
    NoStartPopped [.mlCmd, .hostCmd 0x31, .mlImgTake, .mlRadPoll] (q0.pushCmd 0x30) ∧
    ∃ t, execAll [.mlCmd, .hostCmd 0x31, .mlImgTake, .mlRadPoll] (q0.pushCmd 0x30) = .next t :=
  ⟨rfl, rfl, by decide, ⟨rfl, by decide, fun _ _ => ⟨rfl, rfl, fun _ _ => ⟨rfl, rfl, fun _ _ =>
    ⟨rfl, rfl, fun _ _ => trivial⟩⟩⟩⟩, exists_next (by decide +kernel)⟩

/-- A failed transmit of each of the three kinds, with a start command queued, and an operation after
each. -/
theorem test_witness_AFailedTransmitSilencesTheLoop :
    (∃ t u, exec (.transmit ⟨.timeout, 3⟩) midRun = .next t ∧
      NoStartPopped [.radarBurst] t ∧ execAll [.radarBurst] t = .next u) ∧
    (∃ t u, exec (.mlImgTx (some ⟨.timeout, 7⟩)) (midRun.pushCmd 0x31) = .next t ∧
      NoStartPopped [.mlRadPoll] t ∧ execAll [.mlRadPoll] t = .next u) ∧
    (∃ t u, exec (.mlRadTx ⟨.writeFailure, 18⟩) (midRun.goto .radTx) = .next t ∧
      NoStartPopped [.mlCmd] t ∧ execAll [.mlCmd] t = .next u) ∧
    (midRun.goto .radTx).streaming = true :=
  ⟨⟨_, _, rfl, ⟨rfl, rfl, fun _ _ => trivial⟩, rfl⟩, ⟨_, _, rfl, ⟨rfl, rfl, fun _ _ => trivial⟩, rfl⟩,
    ⟨_, _, rfl, ⟨rfl, by decide, fun _ _ => trivial⟩, rfl⟩, rfl⟩

theorem test_witness_TxLogStaysAConcatenationOfEnvelopes :
    midRun.HoldsEnvelope ∧ TxFramed midRun.par.raw midRun.txlog ∧ ∃ t, step midRun = .next t :=
  ⟨.inr ⟨0, 0x27, f1, by decide, rfl, by decide +kernel⟩,
    TxFramed.send [] 0 0x27 f1 3 .empty (by decide), exists_next (by decide +kernel)⟩

theorem test_witness_AStartedFrameReachesTheHost : f1.length = q.raw.imgFrameBytes := by decide

/-- Every collaborator up; one of them down; a record with no image line. -/
theorem test_witness_BootRefusesABadParameterRecord :
    (collaborators false).up = false ∧ (collaborators true).up = true ∧ q.raw.Valid ∧
      ¬ { q.raw with imgLines := 0 }.Valid := by decide

/-- A record and bytes that are none. -/
theorem test_witness_AStepRunsTheNextRecord :
    (q0.setTrace [0x22, 0x31]).trace ≠ [] ∧
    decodeRecord (q0.setTrace [0x22, 0x31]).ctx (q0.setTrace [0x22, 0x31]).trace =
      .ok (.hostCmd 0x31, []) ∧
    (q0.setTrace [0x40]).trace ≠ [] ∧
    decodeRecord (q0.setTrace [0x40]).ctx (q0.setTrace [0x40]).trace =
      .error (.unknownOpsel 0x40) := by decide +kernel

theorem test_witness_WithNoRecordTheConsumerMoves :
    q0.trace = [] ∧ (streamingOn (q0.goto .radTx)).trace = [] := by decide +kernel

/-- The ends of R102's ranges (T-EN-13). -/
theorem test_witness_UnassignedCodesAreRefused :
    ([0x00, 0x0D, 0x0F, 0x18, 0x1F, 0x23, 0x3E, 0x40, 0xFF] : List Byte).all (fun code =>
      decide ((q0.setTrace [code]).trace = code :: [] ∧
        (code.toNat = 0 ∨ (0x0D ≤ code.toNat ∧ code.toNat ≤ 0x0F) ∨
          (0x18 ≤ code.toNat ∧ code.toNat ≤ 0x1F) ∨ (0x23 ≤ code.toNat ∧ code.toNat ≤ 0x3E) ∨
          0x40 ≤ code.toNat))) = true := by decide +kernel

/-- A well-formed operation of every constructor that takes operands. -/
theorem test_witness_DecodingAnEncodedOperationGivesItBack :
    ([.lineDone, .viewRead 3 4 none, .checksum f1, .frame 7 [], .radarDrain 2 ⟨2, 1, burst⟩,
      .transmit ⟨.timeout, 3⟩, .mlImgBuild none, .mlImgTx none, .mlRadDrain ⟨3, 0, burst⟩,
      .mlRadTx ⟨.ok, 0⟩, .capWrite true 0 lineA, .hostCmd 0x31, .cmdStart, .cmdStop 0x30,
      .envelope 0xFF 0 [0x15], .handoff true true] : List Instr).all (WellFormed q0.ctx) = true ∧
    ([.viewRead 0 2 (some [1, 2]), .mlImgBuild (some ⟨0x99, f1⟩), .mlImgTx (some ⟨.ok, 0⟩)] :
      List Instr).all (WellFormed ⟨q, true, true⟩) = true := by decide

theorem test_witness_EveryStepKeepsTheInvariant : midRun.Inv ∧ ∃ t, step midRun = .next t :=
  ⟨midRun_inv, exists_next (by decide +kernel)⟩

/-- One operation of each agent. -/
theorem test_witness_AgentsWriteOnlyWhatIsTheirs :
    ([.frameDone, .takeReady, .capWrite false 0 lineA, .radarBurst, .hostCmd 0x31, .reset] :
      List Instr).map (fun i => (i.agent, completes (exec i q0))) =
    [(some .producer, true), (some .consumer, true), (some .capture, true), (some .radar, true),
      (some .host, true), (some .platform, true)] := by decide +kernel

theorem test_witness_NoOtherOperationLeavesItsSpace :
    midRun.Inv ∧ (∀ slot off data, Instr.lineDone ≠ .capWrite slot off data) ∧
      ∀ off n draw, Instr.lineDone ≠ .viewRead off n draw :=
  ⟨midRun_inv, nofun, nofun⟩

theorem test_witness_AnIterationTakesThreeToEightOperations :
    q0.trace = [] ∧ q0.phase = .cmd := by decide +kernel

/-- T-EN-15's payload. -/
theorem test_witness_WordsFromTheSpecDecode :
    (List.replicate 307200 (0 : Byte)).length = 307200 := List.length_replicate ..

/-- ML_RAD_BUILD while streaming enters PH_RAD_TX, and a LINE_DONE stays in it. -/
theorem test_witness_RadTxIsEnteredOnlyWhileStreaming :
    isMove .mlRadBuild = true ∧ (streamingOn (q0.goto .radBuild)).phase ≠ .radTx ∧
    look (·.phase) (exec .mlRadBuild (streamingOn (q0.goto .radBuild))) = some .radTx ∧
    isMove .lineDone = true ∧ (midRun.goto .radTx).streaming = true ∧
    look (·.phase) (exec .lineDone (midRun.goto .radTx)) = some .radTx := by decide +kernel

/-- The least byte above 1, in PH_RAD_DRAIN. -/
theorem test_witness_AFaultByteAboveOneStillDrains :
    (⟨2, 2, burst⟩ : RadarDraw).fault ≠ 1 ∧
    (⟨2, 2, burst⟩ : RadarDraw).data.length = (q0.goto .radDrain).par.raw.radarFrameBytes ∧
    (q0.goto .radDrain).phase = .radDrain := by decide +kernel

/-- Instance Q has another IMG_LINES than DOC00; a machine built from it, a step of it, and both kinds
of command byte. -/
theorem test_witness_EveryLiteralIsANamedParameter :
    (collaborators true).up = true ∧ ¬ q.raw.HasDocLiterals ∧ (∃ t, step q0 = .next t) ∧
    (q0.pushCmd 0x31).phase = .cmd ∧ (q0.pushCmd 0x31).cmdq = 0x31 :: [] ∧
    (q0.pushCmd 0x30).cmdq = 0x30 :: [] :=
  ⟨rfl, by decide, exists_next (by decide +kernel), rfl, rfl, rfl⟩

end Sys2Proof.Tests
end

section
/-! PROOFS. The scope's statements (00_scope R3, R7, R8; 70_reset_and_hazards R302, R303): bring-up
checks the parameter record once, no operation changes it, and each literal of DOC00 acts through
it. -/

namespace Sys2Proof.Machine

/-! ## No step changes the parameter record -/

@[simp] theorem takeReady_par (s : State) : (takeReady s).2.par = s.par := by
  cases h : s.handoff.rdy
  · rw [takeReady_notReady h]
  · rw [takeReady_ready h, State.takeView_par]

@[simp] theorem runCommand_par (s : State) (b : Byte) : (runCommand s b).par = s.par := by
  by_cases h : b = s.par.raw.cmdStart
  · rw [h, runCommand_start, State.startStreaming_par]
  · rw [runCommand_stop h, State.stopStreaming_par]

@[simp] theorem checkCommand_par (s : State) : (checkCommand s).par = s.par := by
  cases h : s.cmdq with
  | nil => rw [checkCommand_nil h]
  | cons b rest => rw [checkCommand_cons h, runCommand_par, State.setCmdq_par]

@[simp] theorem afterDrain_par (r : Ret) (s : State) : (afterDrain r s).par = s.par := by
  cases r <;> rfl

theorem State.Sent.par {s u : State} {a : TxDraw} (h : s.Sent a u) : u.par = s.par :=
  h.frame .par (by decide)

theorem execLineDone_par {s t : State} (h : execLineDone s = .next t) : t.par = s.par := by
  rw [execLineDone_eq] at h
  cases h
  split <;> rfl

theorem execFrameDone_par {s t : State} (h : execFrameDone s = .next t) : t.par = s.par := by
  by_cases hl : s.lineIdx.toNat = s.par.raw.imgLines
  · rw [execFrameDone_complete hl] at h
    cases h; rfl
  · rw [execFrameDone_malformed hl] at h
    cases h; rfl

/-- 00_scope R7, 10_state R40 (a): the parameter record is written by nothing. -/
theorem exec_par {i : Instr} {s t : State} (h : exec i s = .next t) : t.par = s.par := by
  cases i with
  | lineDone => exact execLineDone_par h
  | frameDone => exact execFrameDone_par h
  | writeHandle => cases h; rfl
  | swap => cases h; rfl
  | takeReady => cases h; exact takeReady_par s
  | viewRead off n draw => obtain ⟨bs, -, rfl⟩ := execViewRead_next h; rfl
  | viewRelease => cases h; rfl
  | checksum bytes => cases h; rfl
  | frame seq payload => obtain ⟨-, rfl⟩ := execFrame_next h; rfl
  | radarPoll => cases h; rfl
  | radarDrain expected answer =>
    obtain ⟨-, r, ⟨-, rfl⟩ | ⟨-, rfl⟩⟩ := execRadarDrain_next h <;> rfl
  | transmit answer => obtain ⟨u, r, hu, rfl⟩ := execTransmit_next h; exact hu.par
  | mlCmd => obtain ⟨-, rfl⟩ := execMlCmd_next h; exact checkCommand_par s
  | mlImgTake => obtain ⟨-, ⟨-, rfl⟩ | ⟨-, rfl⟩⟩ := execMlImgTake_next h <;> rfl
  | mlImgBuild draw => obtain ⟨-, cks, payload, -, rfl⟩ := execMlImgBuild_next h; rfl
  | mlImgTx answer =>
    obtain ⟨-, ⟨-, -, rfl⟩ | ⟨-, a, u, r, -, hu, rfl⟩⟩ := execMlImgTx_next h
    · rfl
    · exact hu.par
  | mlRadPoll => obtain ⟨-, rfl⟩ := execMlRadPoll_next h; rfl
  | mlRadDrain answer =>
    obtain ⟨-, -, r, rfl | rfl⟩ := execMlRadDrain_next h <;> exact afterDrain_par r _
  | mlRadBuild =>
    obtain ⟨-, ⟨-, rfl⟩ | ⟨-, cks, payload, -, rfl⟩⟩ := execMlRadBuild_next h <;> rfl
  | mlRadTx answer =>
    obtain ⟨-, ⟨-, rfl⟩ | ⟨-, u, r, hu, rfl⟩⟩ := execMlRadTx_next h
    · rfl
    · exact hu.par
  | capWrite slot off data => obtain ⟨-, rfl⟩ := execCapWrite_next h; rfl
  | radarBurst => cases h; rfl
  | hostCmd byte => cases h; rfl
  | reset => cases h; rfl
  | cmdStart => cases h; rfl
  | cmdStop cmd => cases h; rfl
  | envelope seq cks payload => obtain ⟨-, rfl⟩ := execEnvelope_next h; rfl
  | handoff sel rdy => cases h

/-- The state an operation is fetched in carries the same parameter record. -/
theorem fetch_par {s s1 : State} {i : Instr} (h : fetch s = .ok (i, s1)) : s1.par = s.par := by
  obtain ⟨-, -, rfl⟩ | ⟨rest, -, rfl⟩ := fetch_ok h
  · exact State.drawOnce_par s
  · exact State.setTrace_par s rest

theorem step_par {s t : State} (h : step s = .next t) : t.par = s.par := by
  obtain ⟨i, s1, hf, he⟩ := step_next h
  exact (exec_par he).trans (fetch_par hf)

/-! ## Each literal acts as the record has it -/

@[simp] theorem checksum_nil (p : Params) : checksum p [] = p.crcSeed := rfl

/-- FRAME of a payload that fits leaves the envelope in EB and returns it (44_envelope_framer R200). -/
theorem execFrame_of_le {s : State} {payload : List Byte} (seq : Byte)
    (h : payload.length ≤ s.par.raw.maxPayload) :
    execFrame seq payload s =
      .next ((s.withEnvelope seq (checksum s.par.raw payload) payload).returns
        (.bytes (frameBytes s.par.raw payload seq))) := by
  rw [execFrame, buildFrame, putEnvelope_of_le h]

/-- EB's first bytes after an envelope is left in it are the envelope's (30_encoding R91). -/
theorem State.byteAt_withEnvelope (s : State) (seq cks : Byte) (payload : List Byte) {k : Nat}
    (h : k < payload.length + 8) :
    (s.withEnvelope seq cks payload).byteAt .eb k =
      (envelopeBytes s.par.raw seq cks payload).getD k 0 := by
  have hw := State.byteAt_writeBytes s .eb .eb 0 k (envelopeBytes s.par.raw seq cks payload)
  rwa [if_pos ⟨rfl, k.zero_le, by simpa using h⟩] at hw

theorem State.withEnvelope_sync0 (s : State) (seq cks : Byte) (payload : List Byte) :
    (s.withEnvelope seq cks payload).byteAt .eb 0 = s.par.raw.sync0 :=
  State.byteAt_withEnvelope s seq cks payload (by omega)

theorem State.withEnvelope_sync1 (s : State) (seq cks : Byte) (payload : List Byte) :
    (s.withEnvelope seq cks payload).byteAt .eb 1 = s.par.raw.sync1 :=
  State.byteAt_withEnvelope s seq cks payload (by omega)

/-- ML_CMD in its phase (45_stream_controller R221). -/
theorem execMlCmd_of {s : State} (h : s.phase = .cmd) :
    execMlCmd s = .next (((checkCommand s).goto .imgTake).returns .none) :=
  inPhase_of _ h

/-- A command byte starts streaming exactly when it is CMD_START (30_encoding R96, R97). -/
@[simp] theorem runCommand_streaming (s : State) (b : Byte) :
    (runCommand s b).streaming = decide (b = s.par.raw.cmdStart) := by
  by_cases h : b = s.par.raw.cmdStart
  · rw [h, runCommand_start, decide_eq_true rfl, State.startStreaming_streaming]
  · rw [runCommand_stop h, decide_eq_false h, State.stopStreaming_streaming]

theorem checkCommand_streaming {s : State} {b : Byte} {rest : List Byte}
    (h : s.cmdq = b :: rest) :
    (checkCommand s).streaming = decide (b = s.par.raw.cmdStart) := by
  rw [checkCommand_cons h, runCommand_streaming, State.setCmdq_par]

/-- FRAME_DONE flips SEL exactly for a frame of IMG_LINES lines (42_capture_fsm R164). -/
theorem execFrameDone_sel (s : State) :
    ∃ t, execFrameDone s = .next t ∧
      t.handoff.sel = (if s.lineIdx.toNat = s.par.raw.imgLines then !s.handoff.sel
        else s.handoff.sel) := by
  by_cases h : s.lineIdx.toNat = s.par.raw.imgLines
  · exact ⟨_, execFrameDone_complete h, (if_pos h).symm⟩
  · exact ⟨_, execFrameDone_malformed h, (if_neg h).symm⟩

/-! ## Bring-up -/

theorem State.boot_down {c : Collaborators} (p : Params) (h : c.up = false) :
    State.boot c p = .fault .hardwareInitFailure :=
  if_neg (by simp [h])

theorem State.boot_invalid {c : Collaborators} {p : Params} (hc : c.up = true) (hp : ¬ p.Valid) :
    State.boot c p = .refused .configFatal := by
  rw [State.boot, if_pos hc, dif_neg hp]

theorem State.boot_valid {c : Collaborators} {p : Params} (hc : c.up = true) (hp : p.Valid) :
    State.boot c p = .next (State.resetOf ⟨p, hp⟩) := by
  rw [State.boot, if_pos hc, dif_pos hp]

/-! ## The statements -/

/-- Settles O45: the three cases of `State.boot`, the collaborators before the record. -/
theorem bootRefusesABadParameterRecord : Obligations.BootRefusesABadParameterRecord :=
  fun _ p => ⟨State.boot_down p, State.boot_invalid, State.boot_valid⟩

/-- Settles O59: bring-up takes any record that meets R8, `step_par` keeps it, and each literal's
operation reads it. -/
theorem everyLiteralIsANamedParameter : Obligations.EveryLiteralIsANamedParameter := by
  refine ⟨Config.params_hasDocLiterals, rfl, fun c p hc => ⟨State.boot_valid hc p.valid, rfl⟩,
    fun _ _ => step_par, fun s => ⟨?seed, ?sync, ?start, execFrameDone_sel s⟩⟩
  case seed => exact ⟨_, rfl, congrArg Ret.byte (checksum_nil s.par.raw)⟩
  case sync =>
    intro seq
    have hframe := execFrame_of_le (s := s) (payload := []) seq (Nat.zero_le _)
    exact ⟨_, hframe, State.withEnvelope_sync0 s seq _ [], State.withEnvelope_sync1 s seq _ []⟩
  case start =>
    intro b rest hp hq
    exact ⟨_, execMlCmd_of hp, checkCommand_streaming hq⟩

end Sys2Proof.Machine
end

section
/-! PROOFS. The state's statements (10_state R24, R26, R36, R38, R39): what each operation writes,
as one list per operation, and the invariant every step keeps. -/

namespace Sys2Proof.Machine

/-! ## Frames of the named updates -/

/-- A frame is one clause per element; the case split over the elements happens here only. -/
theorem frame_iff {s t : State} {xs : List Elem} :
    Frame s t xs ↔
      (.par ∈ xs ∨ t.par = s.par) ∧
      (∀ sp, .space sp ∈ xs ∨ ∀ a, t.byteAt sp a = s.byteAt sp a) ∧
      (.ebLen ∈ xs ∨ t.ebLen = s.ebLen) ∧
      (.sel ∈ xs ∨ t.handoff.sel = s.handoff.sel) ∧
      (.rdy ∈ xs ∨ t.handoff.rdy = s.handoff.rdy) ∧
      (.lineIdx ∈ xs ∨ t.lineIdx = s.lineIdx) ∧
      (.lbSlot ∈ xs ∨ t.lbSlot = s.lbSlot) ∧
      (.avail ∈ xs ∨ t.avail = s.avail) ∧
      (.streaming ∈ xs ∨ t.streaming = s.streaming) ∧
      (.seq ∈ xs ∨ t.seq = s.seq) ∧
      (.sendCnt ∈ xs ∨ t.sendCnt = s.sendCnt) ∧
      (.phase ∈ xs ∨ t.phase = s.phase) ∧
      (.view ∈ xs ∨ t.view = s.view) ∧
      (.viewStale ∈ xs ∨ t.viewStale = s.viewStale) ∧
      (.cmdq ∈ xs ∨ t.cmdq = s.cmdq) ∧
      (.txlog ∈ xs ∨ t.txlog = s.txlog) ∧
      (.diaglog ∈ xs ∨ t.diaglog = s.diaglog) ∧
      (.ret ∈ xs ∨ t.ret = s.ret) ∧
      (.trace ∈ xs ∨ t.trace = s.trace) ∧
      (.powerUps ∈ xs ∨ t.powerUps = s.powerUps) ∧
      (.draws ∈ xs ∨ t.draws = s.draws) := by
  constructor
  · intro h
    have clause : ∀ e : Elem, e ∈ xs ∨ e.Agrees s t := fun e => or_iff_not_imp_left.2 (h e)
    exact ⟨clause .par, fun sp => clause (.space sp), clause .ebLen, clause .sel, clause .rdy,
      clause .lineIdx, clause .lbSlot, clause .avail, clause .streaming, clause .seq,
      clause .sendCnt, clause .phase, clause .view, clause .viewStale, clause .cmdq, clause .txlog,
      clause .diaglog, clause .ret, clause .trace, clause .powerUps, clause .draws⟩
  · intro h e he
    cases e
    case space sp =>
      obtain ⟨-, hspace, -⟩ := h
      exact (hspace sp).resolve_left he
    all_goals simp_all [Elem.Agrees]

theorem Frame.refl (s : State) : Frame s s [] := by simp [frame_iff]

/-- Two operations in a row write what either writes. -/
theorem Frame.comp {s t u : State} {xs ys : List Elem} (h1 : Frame s t xs) (h2 : Frame t u ys) :
    Frame s u (xs ++ ys) :=
  (h1.mono fun _ => List.mem_append_left ys).trans (h2.mono fun _ => List.mem_append_right xs)

theorem State.returns_frame (s : State) (r : Ret) : Frame s (s.returns r) [.ret] := by
  simp [frame_iff]

theorem State.raises_frame (s : State) (d : Diag) : Frame s (s.raises d) [.ret] :=
  s.returns_frame (.raised d)

theorem State.emit_frame (s : State) (d : Diag) : Frame s (s.emit d) [.diaglog] := by
  simp [frame_iff]

theorem State.countLine_frame (s : State) : Frame s s.countLine [.lineIdx, .lbSlot] := by
  simp [frame_iff]

theorem State.endFrame_frame (s : State) : Frame s s.endFrame [.lineIdx, .lbSlot] := by
  simp [frame_iff]

theorem State.advanceSeq_frame (s : State) : Frame s s.advanceSeq [.seq] := by
  simp [frame_iff]

theorem State.pushCmd_frame (s : State) (b : Byte) : Frame s (s.pushCmd b) [.cmdq] := by
  simp [frame_iff]

theorem State.setCmdq_frame (s : State) (q : List Byte) : Frame s (s.setCmdq q) [.cmdq] := by
  simp [frame_iff]

theorem State.goto_frame (s : State) (p : Phase) : Frame s (s.goto p) [.phase] := by
  simp [frame_iff]

/-- How a main-loop operation ends: the next phase and the result. -/
theorem State.goto_returns_frame (s : State) (p : Phase) (r : Ret) :
    Frame s ((s.goto p).returns r) [.phase, .ret] :=
  (s.goto_frame p).comp (State.returns_frame _ r)

theorem State.swapBuffers_frame (s : State) :
    Frame s s.swapBuffers [.sel, .rdy, .viewStale] := by
  simp [frame_iff]

theorem State.takeView_frame (s : State) : Frame s s.takeView [.rdy, .view, .viewStale] := by
  simp [frame_iff]

theorem State.releaseView_frame (s : State) : Frame s s.releaseView [.view, .viewStale] := by
  simp [frame_iff]

theorem State.setAvail_frame (s : State) (b : Bool) : Frame s (s.setAvail b) [.avail] := by
  simp [frame_iff]

theorem State.startStreaming_frame (s : State) :
    Frame s s.startStreaming [.streaming, .sendCnt] := by
  simp [frame_iff]

theorem State.stopStreaming_frame (s : State) : Frame s s.stopStreaming [.streaming] := by
  simp [frame_iff]

/-! ## Frames of the shared operations -/

theorem takeReady_frame (s : State) : Frame s (takeReady s).2 [.rdy, .view, .viewStale] := by
  cases h : s.handoff.rdy
  · rw [takeReady_notReady h]
    exact (Frame.refl s).mono (by simp)
  · rw [takeReady_ready h]
    exact s.takeView_frame

theorem runCommand_frame (s : State) (b : Byte) :
    Frame s (runCommand s b) [.streaming, .sendCnt] := by
  by_cases h : b = s.par.raw.cmdStart
  · rw [h, runCommand_start]
    exact s.startStreaming_frame
  · rw [runCommand_stop h]
    exact s.stopStreaming_frame.mono (by simp)

theorem checkCommand_frame (s : State) :
    Frame s (checkCommand s) [.cmdq, .streaming, .sendCnt] := by
  cases h : s.cmdq with
  | nil =>
    rw [checkCommand_nil h]
    exact (Frame.refl s).mono (by simp)
  | cons b rest =>
    rw [checkCommand_cons h]
    exact (s.setCmdq_frame rest).comp (runCommand_frame _ b)

/-- What follows a drain logs at most one event (45_stream_controller R227). -/
theorem afterDrain_frame (r : Ret) (s : State) :
    Frame s (afterDrain r s) [.diaglog, .phase, .ret] := by
  cases r with
  | raised d => exact ((s.emit_frame d).comp (State.goto_frame _ _)).comp (State.raises_frame _ d)
  | _ => exact (s.goto_returns_frame .radBuild .none).mono (by simp)

/-- A drain that stores its bytes writes the latch and RB (43_radar_adapter R182). -/
theorem frame_drained (s : State) (data : List Byte) :
    Frame s ((s.setAvail false).writeBytes .rb 0 data) [.avail, .space .rb] :=
  (s.setAvail_frame false).comp (frame_writeBytes _ .rb 0 data)

theorem execReset_frame {s t : State} (h : execReset s = .next t) :
    Frame s t (agentWrites s .platform) := by
  cases h
  refine frame_iff.2 ?_
  simp only [agentWrites, List.mem_cons, State.resetOf]
  refine ⟨.inr trivial, fun sp => .inl ?_, ?_⟩
  · rcases sp with (_ | _) | (_ | _) | _ | _ <;> simp
  · simp

/-! ## What each operation writes -/

/-- The elements each operation may write: the frames of 41_buffer_pair to 45_stream_controller,
side by side. -/
def writesOf (s : State) : Instr → List Elem
  | .lineDone => [.space (.fb s.handoff.sel), .lineIdx, .lbSlot, .ret]
  | .frameDone =>
    if swapsIn s .frameDone then [.sel, .rdy, .viewStale, .lineIdx, .lbSlot, .ret]
    else [.diaglog, .lineIdx, .lbSlot, .ret]
  | .writeHandle => [.ret]
  | .swap => [.sel, .rdy, .viewStale, .ret]
  | .takeReady => [.rdy, .view, .viewStale, .ret]
  | .viewRead _ _ _ => [.ret]
  | .viewRelease => [.view, .viewStale, .ret]
  | .checksum _ => [.ret]
  | .frame _ _ => [.space .eb, .ebLen, .ret]
  | .radarPoll => [.ret]
  | .radarDrain _ _ => [.avail, .space .rb, .ret]
  | .transmit _ => [.txlog, .sendCnt, .streaming, .ret]
  | .mlCmd => [.cmdq, .streaming, .sendCnt, .phase, .ret]
  | .mlImgTake => [.rdy, .view, .viewStale, .phase, .ret]
  | .mlImgBuild _ => [.space .eb, .ebLen, .seq, .view, .viewStale, .phase, .ret]
  | .mlImgTx _ => [.txlog, .sendCnt, .streaming, .phase, .ret]
  | .mlRadPoll => [.phase, .ret]
  | .mlRadDrain _ => [.avail, .space .rb, .diaglog, .phase, .ret]
  | .mlRadBuild => [.space .eb, .ebLen, .seq, .phase, .ret]
  | .mlRadTx _ => [.txlog, .sendCnt, .streaming, .phase, .ret]
  | .capWrite slot _ _ => [.space (.lb slot), .ret]
  | .radarBurst => [.avail, .ret]
  | .hostCmd _ => [.cmdq, .ret]
  | .reset => agentWrites s .platform
  | .cmdStart => [.streaming, .sendCnt, .ret]
  | .cmdStop _ => [.streaming, .ret]
  | .envelope _ _ _ => [.space .eb, .ebLen, .ret]
  | .handoff _ _ => []

/-- FRAME_DONE performs SWAP exactly at the expected count (42_capture_fsm R168). -/
theorem swapsIn_frameDone (s : State) :
    swapsIn s .frameDone = decide (s.lineIdx.toNat = s.par.raw.imgLines) := by
  by_cases h : s.lineIdx.toNat = s.par.raw.imgLines <;>
    simp [swapsIn, State.frameVerdict, State.expectedLines, h]

theorem execLineDone_frame {s t : State} (h : execLineDone s = .next t) :
    Frame s t (writesOf s .lineDone) := by
  rw [execLineDone_eq] at h
  cases h
  split
  · exact ((frame_writeBytes s _ _ _).comp (State.countLine_frame _)).comp
      (State.returns_frame _ _)
  · exact (s.countLine_frame.comp (State.returns_frame _ _)).mono (by simp [writesOf])

theorem execFrameDone_frame {s t : State} (h : execFrameDone s = .next t) :
    Frame s t (writesOf s .frameDone) := by
  rw [writesOf, swapsIn_frameDone]
  by_cases hl : s.lineIdx.toNat = s.par.raw.imgLines
  · rw [execFrameDone_complete hl] at h
    cases h
    rw [if_pos (decide_eq_true hl)]
    exact (s.swapBuffers_frame.comp (State.endFrame_frame _)).comp (State.returns_frame _ _)
  · rw [execFrameDone_malformed hl] at h
    cases h
    rw [if_neg (by simpa using hl)]
    exact ((s.emit_frame _).comp (State.endFrame_frame _)).comp (State.raises_frame _ _)

theorem execRadarDrain_frame {expected : U32} {a : RadarDraw} {s t : State}
    (h : execRadarDrain expected a s = .next t) : Frame s t [.avail, .space .rb, .ret] := by
  obtain ⟨-, r, ⟨-, rfl⟩ | ⟨-, rfl⟩⟩ := execRadarDrain_next h
  · exact (frame_drained s a.data).comp (State.returns_frame _ r)
  · exact ((s.setAvail_frame false).comp (State.returns_frame _ r)).mono (by simp)

theorem execMlImgTake_frame {s t : State} (h : execMlImgTake s = .next t) :
    Frame s t [.rdy, .view, .viewStale, .phase, .ret] := by
  obtain ⟨-, ⟨-, rfl⟩ | ⟨-, rfl⟩⟩ := execMlImgTake_next h
  · exact s.takeView_frame.comp (State.goto_returns_frame _ _ _)
  · exact (s.goto_returns_frame _ _).mono (by simp)

theorem execMlImgBuild_frame {draw : Option StaleDraw} {s t : State}
    (h : execMlImgBuild draw s = .next t) :
    Frame s t [.space .eb, .ebLen, .seq, .view, .viewStale, .phase, .ret] := by
  obtain ⟨-, cks, payload, -, rfl⟩ := execMlImgBuild_next h
  exact (((frame_withEnvelope s s.seq cks payload).comp (State.advanceSeq_frame _)).comp
    (State.releaseView_frame _)).comp (State.goto_returns_frame _ _ _)

/-- A main-loop transmit sends or abandons, then moves on (45_stream_controller R224, R229). -/
theorem State.Sent.goto_returns_frame {s u : State} {a : TxDraw} (h : s.Sent a u)
    (p : Phase) (r : Ret) :
    Frame s ((u.goto p).returns r) [.txlog, .sendCnt, .streaming, .phase, .ret] :=
  h.frame.comp (u.goto_returns_frame p r)

theorem execMlImgTx_frame {answer : Option TxDraw} {s t : State}
    (h : execMlImgTx answer s = .next t) :
    Frame s t [.txlog, .sendCnt, .streaming, .phase, .ret] := by
  obtain ⟨-, ⟨-, -, rfl⟩ | ⟨-, a, u, r, -, hu, rfl⟩⟩ := execMlImgTx_next h
  · exact (s.goto_returns_frame _ _).mono (by simp)
  · exact hu.goto_returns_frame _ r

theorem execMlRadDrain_frame {a : RadarDraw} {s t : State} (h : execMlRadDrain a s = .next t) :
    Frame s t [.avail, .space .rb, .diaglog, .phase, .ret] := by
  obtain ⟨-, -, r, rfl | rfl⟩ := execMlRadDrain_next h
  · exact (frame_drained s a.data).comp (afterDrain_frame r _)
  · exact ((s.setAvail_frame false).comp (afterDrain_frame r _)).mono (by simp)

theorem execMlRadBuild_frame {s t : State} (h : execMlRadBuild s = .next t) :
    Frame s t [.space .eb, .ebLen, .seq, .phase, .ret] := by
  obtain ⟨-, ⟨-, rfl⟩ | ⟨-, cks, payload, -, rfl⟩⟩ := execMlRadBuild_next h
  · exact (s.goto_returns_frame _ _).mono (by simp)
  · exact ((frame_withEnvelope s s.seq cks payload).comp (State.advanceSeq_frame _)).comp
      (State.goto_returns_frame _ _ _)

theorem execMlRadTx_frame {a : TxDraw} {s t : State} (h : execMlRadTx a s = .next t) :
    Frame s t [.txlog, .sendCnt, .streaming, .phase, .ret] := by
  obtain ⟨-, ⟨-, rfl⟩ | ⟨-, u, r, hu, rfl⟩⟩ := execMlRadTx_next h
  · exact (s.goto_returns_frame _ _).mono (by simp)
  · exact hu.goto_returns_frame _ r

/-- An operation writes nothing but its list. -/
theorem exec_frame {i : Instr} {s t : State} (h : exec i s = .next t) :
    Frame s t (writesOf s i) := by
  cases i with
  | lineDone => exact execLineDone_frame h
  | frameDone => exact execFrameDone_frame h
  | writeHandle => cases h; exact s.returns_frame _
  | swap => cases h; exact s.swapBuffers_frame.comp (State.returns_frame _ _)
  | takeReady => cases h; exact (takeReady_frame s).comp (State.returns_frame _ _)
  | viewRead off n draw => obtain ⟨bs, -, rfl⟩ := execViewRead_next h; exact s.returns_frame _
  | viewRelease => cases h; exact s.releaseView_frame.comp (State.returns_frame _ _)
  | checksum bytes => cases h; exact s.returns_frame _
  | frame seq payload =>
    obtain ⟨-, rfl⟩ := execFrame_next h
    exact (frame_withEnvelope s seq _ payload).comp (State.returns_frame _ _)
  | radarPoll => cases h; exact s.returns_frame _
  | radarDrain expected answer => exact execRadarDrain_frame h
  | transmit answer =>
    obtain ⟨u, r, hu, rfl⟩ := execTransmit_next h
    exact hu.frame.comp (u.returns_frame r)
  | mlCmd =>
    obtain ⟨-, rfl⟩ := execMlCmd_next h
    exact (checkCommand_frame s).comp (State.goto_returns_frame _ _ _)
  | mlImgTake => exact execMlImgTake_frame h
  | mlImgBuild draw => exact execMlImgBuild_frame h
  | mlImgTx answer => exact execMlImgTx_frame h
  | mlRadPoll => obtain ⟨-, rfl⟩ := execMlRadPoll_next h; exact s.goto_returns_frame _ _
  | mlRadDrain answer => exact execMlRadDrain_frame h
  | mlRadBuild => exact execMlRadBuild_frame h
  | mlRadTx answer => exact execMlRadTx_frame h
  | capWrite slot off data =>
    obtain ⟨-, rfl⟩ := execCapWrite_next h
    exact (frame_writeBytes s _ _ _).comp (State.returns_frame _ _)
  | radarBurst => cases h; exact (s.setAvail_frame true).comp (State.returns_frame _ _)
  | hostCmd byte => cases h; exact (s.pushCmd_frame byte).comp (State.returns_frame _ _)
  | reset => exact execReset_frame h
  | cmdStart => cases h; exact s.startStreaming_frame.comp (State.returns_frame _ _)
  | cmdStop cmd => cases h; exact s.stopStreaming_frame.comp (State.returns_frame _ _)
  | envelope seq cks payload =>
    obtain ⟨-, rfl⟩ := execEnvelope_next h
    exact (frame_withEnvelope s seq cks payload).comp (State.returns_frame _ _)
  | handoff sel rdy => cases h

/-! ## The lists of 10_state R38 cover what the operations write -/

theorem writesOf_subset_agentWrites {i : Instr} {a : Agent} (s : State) (h : i.agent = some a) :
    ∀ e ∈ writesOf s i, e ∈ agentWrites s a := by
  cases i
  case frameDone =>
    cases h
    simp only [writesOf]
    split <;> simp [agentWrites]
  case capWrite slot off data => cases h; cases slot <;> simp [writesOf, agentWrites]
  case reset => cases h; exact fun _ he => he
  case handoff sel rdy => cases h
  all_goals cases h; simp [writesOf, agentWrites]

/-! ## Who writes the control word -/

/-- An operation that performs SWAP flips SEL and sets RDY (41_buffer_pair R141, 42_capture_fsm
R168). -/
theorem exec_handoff_of_swapsIn {i : Instr} {s t : State} (hs : swapsIn s i = true)
    (h : exec i s = .next t) : t.handoff = { sel := !s.handoff.sel, rdy := true } := by
  cases i
  case swap => cases h; rfl
  case frameDone =>
    rw [swapsIn_frameDone, decide_eq_true_eq] at hs
    have hdone : execFrameDone s = .next t := h
    rw [execFrameDone_complete hs] at hdone
    cases hdone; rfl
  all_goals cases hs

/-- SEL is in the lists of the operations that perform SWAP and of RESET only. -/
theorem swapsIn_of_sel_mem {i : Instr} {s : State} (h : .sel ∈ writesOf s i) (hr : i ≠ .reset) :
    swapsIn s i = true := by
  cases i
  case swap => rfl
  case frameDone =>
    by_contra hn
    simp [writesOf, hn] at h
  case reset => exact absurd rfl hr
  all_goals simp [writesOf] at h

/-- RDY is in the lists of those operations and of the two that take a frame only. -/
theorem swapsIn_of_rdy_mem {i : Instr} {s : State} (h : .rdy ∈ writesOf s i) (hr : i ≠ .reset)
    (ht : i ≠ .takeReady) (hm : i ≠ .mlImgTake) : swapsIn s i = true := by
  cases i
  case swap => rfl
  case frameDone =>
    by_contra hn
    simp [writesOf, hn] at h
  case reset => exact absurd rfl hr
  case takeReady => exact absurd rfl ht
  case mlImgTake => exact absurd rfl hm
  all_goals simp [writesOf] at h

/-! ## The invariant -/

/-- The elements the invariant speaks of. -/
def State.invFields (s : State) : ValidParams × Store × Nat × Bool × Option Bool × Bool :=
  (s.par, s.store, s.ebLen, s.handoff.sel, s.view, s.viewStale)

/-- An update that leaves those elements keeps the invariant. -/
theorem State.Inv.congr {s t : State} (h : s.Inv) (he : t.invFields = s.invFields) : t.Inv := by
  simp only [State.invFields, Prod.mk.injEq] at he
  obtain ⟨hpar, hstore, hlen, hsel, hview, hstale⟩ := he
  refine ⟨?_, ?_, ?_, ?_⟩
  · rw [hstore]
    simpa only [State.sizeOf, hpar] using h.store
  · rw [hlen, hpar]; exact h.ebLen
  · rw [hview, hstale, hsel]; exact h.view
  · rw [hstale, hview]; exact h.stale

theorem State.Inv.writeBytes {s : State} (h : s.Inv) {sp : Space} {a : Nat} {bs : List Byte}
    (ha : a + bs.length ≤ s.sizeOf sp) : (s.writeBytes sp a bs).Inv :=
  ⟨State.writeBytes_wf s sp a bs h.store ha, h.ebLen, h.view, h.stale⟩

theorem State.Inv.withEnvelope {s : State} (h : s.Inv) (seq cks : Byte) {payload : List Byte}
    (hle : payload.length ≤ s.par.raw.maxPayload) : (s.withEnvelope seq cks payload).Inv :=
  ⟨(h.writeBytes (sp := .eb) (a := 0) (bs := envelopeBytes s.par.raw seq cks payload)
      (by simpa using hle)).store,
    .inr ⟨Nat.le_add_left 8 _, Nat.add_le_add_right hle 8⟩, h.view, h.stale⟩

/-- A SWAP under a held view marks it, so no unmarked view is left to name a buffer (R36). -/
theorem State.Inv.swapBuffers {s : State} (h : s.Inv) : s.swapBuffers.Inv := by
  refine ⟨h.store, h.ebLen, fun v hv hs => ?_, fun hs => ?_⟩
  · rw [State.swapBuffers_view] at hv
    simp [hv] at hs
  · rw [State.swapBuffers_view]
    intro hn
    rw [State.swapBuffers_viewStale, if_pos hn] at hs
    exact h.stale hs hn

theorem State.Inv.takeView {s : State} (h : s.Inv) : s.takeView.Inv :=
  ⟨h.store, h.ebLen, fun _ hv _ => (Option.some.inj hv).symm, nofun⟩

theorem State.Inv.releaseView {s : State} (h : s.Inv) : s.releaseView.Inv :=
  ⟨h.store, h.ebLen, nofun, nofun⟩

theorem State.resetOf_inv (p : ValidParams) : (State.resetOf p).Inv where
  store sp := by
    rw [show (State.resetOf p).store = Store.empty from rfl, Store.empty_get]
    exact Memory.nil_wf _
  ebLen := .inl rfl
  view := nofun
  stale := nofun

/-! ## The shared operations keep the invariant -/

theorem State.Inv.takeReady {s : State} (h : s.Inv) : (takeReady s).2.Inv := by
  cases hr : s.handoff.rdy
  · rwa [takeReady_notReady hr]
  · rw [takeReady_ready hr]
    exact h.takeView

theorem State.Inv.checkCommand {s : State} (h : s.Inv) : (checkCommand s).Inv := by
  cases hq : s.cmdq with
  | nil => rwa [checkCommand_nil hq]
  | cons b rest =>
    rw [checkCommand_cons hq, runCommand]
    split <;> exact h.congr rfl

theorem State.Inv.sent {s u : State} {a : TxDraw} (h : s.Inv) (hu : s.Sent a u) : u.Inv := by
  obtain ⟨n, -, -, ⟨-, rfl⟩ | ⟨-, rfl⟩⟩ := hu <;> exact h.congr rfl

theorem State.Inv.afterDrain {s : State} (h : s.Inv) (r : Ret) : (afterDrain r s).Inv := by
  cases r <;> exact h.congr rfl

theorem State.Inv.setAvail {s : State} (h : s.Inv) (b : Bool) : (s.setAvail b).Inv := h.congr rfl

/-- A drain that stores its RADAR_FRAME_BYTES bytes (43_radar_adapter R182). -/
theorem State.Inv.drained {s : State} (h : s.Inv) {data : List Byte}
    (hl : data.length = s.par.raw.radarFrameBytes) :
    ((s.setAvail false).writeBytes .rb 0 data).Inv :=
  (h.setAvail false).writeBytes (by simp [hl])

/-! ## Every operation keeps the invariant -/

theorem execLineDone_inv {s t : State} (hs : s.Inv) (h : execLineDone s = .next t) : t.Inv := by
  rw [execLineDone_eq] at h
  cases h
  split
  · rename_i hlt
    have hline : lineOffset s + (s.readBytes (.lb s.lbSlot) 0 s.par.raw.lineBytes).length ≤
        s.sizeOf (.fb s.handoff.sel) := by simpa using lineOffset_le hlt
    exact (hs.writeBytes hline).congr rfl
  · exact hs.congr rfl

theorem execFrameDone_inv {s t : State} (hs : s.Inv) (h : execFrameDone s = .next t) : t.Inv := by
  by_cases hl : s.lineIdx.toNat = s.par.raw.imgLines
  · rw [execFrameDone_complete hl] at h
    cases h
    exact hs.swapBuffers.congr rfl
  · rw [execFrameDone_malformed hl] at h
    cases h
    exact hs.congr rfl

theorem execRadarDrain_inv {expected : U32} {a : RadarDraw} {s t : State} (hs : s.Inv)
    (h : execRadarDrain expected a s = .next t) : t.Inv := by
  obtain ⟨hl, r, ⟨-, rfl⟩ | ⟨-, rfl⟩⟩ := execRadarDrain_next h
  · exact (hs.drained hl).congr rfl
  · exact hs.congr rfl

theorem execMlImgTake_inv {s t : State} (hs : s.Inv) (h : execMlImgTake s = .next t) : t.Inv := by
  obtain ⟨-, ⟨-, rfl⟩ | ⟨-, rfl⟩⟩ := execMlImgTake_next h
  · exact hs.takeView.congr rfl
  · exact hs.congr rfl

theorem execMlImgBuild_inv {draw : Option StaleDraw} {s t : State} (hs : s.Inv)
    (h : execMlImgBuild draw s = .next t) : t.Inv := by
  obtain ⟨-, cks, payload, hl, rfl⟩ := execMlImgBuild_next h
  have hbuilt := hs.withEnvelope s.seq cks (hl.le.trans s.par.img_le)
  exact hbuilt.releaseView.congr rfl

theorem execMlImgTx_inv {answer : Option TxDraw} {s t : State} (hs : s.Inv)
    (h : execMlImgTx answer s = .next t) : t.Inv := by
  obtain ⟨-, ⟨-, -, rfl⟩ | ⟨-, a, u, r, -, hu, rfl⟩⟩ := execMlImgTx_next h
  · exact hs.congr rfl
  · exact (hs.sent hu).congr rfl

theorem execMlRadDrain_inv {a : RadarDraw} {s t : State} (hs : s.Inv)
    (h : execMlRadDrain a s = .next t) : t.Inv := by
  obtain ⟨-, hl, r, rfl | rfl⟩ := execMlRadDrain_next h
  · exact (hs.drained hl).afterDrain r
  · exact (hs.setAvail false).afterDrain r

theorem execMlRadBuild_inv {s t : State} (hs : s.Inv) (h : execMlRadBuild s = .next t) :
    t.Inv := by
  obtain ⟨-, ⟨-, rfl⟩ | ⟨-, cks, payload, hl, rfl⟩⟩ := execMlRadBuild_next h
  · exact hs.congr rfl
  · exact (hs.withEnvelope s.seq cks (hl.le.trans s.par.radar_le)).congr rfl

theorem execMlRadTx_inv {a : TxDraw} {s t : State} (hs : s.Inv)
    (h : execMlRadTx a s = .next t) : t.Inv := by
  obtain ⟨-, ⟨-, rfl⟩ | ⟨-, u, r, hu, rfl⟩⟩ := execMlRadTx_next h
  · exact hs.congr rfl
  · exact (hs.sent hu).congr rfl

theorem exec_keeps_inv {i : Instr} {s t : State} (hs : s.Inv) (h : exec i s = .next t) :
    t.Inv := by
  cases i with
  | lineDone => exact execLineDone_inv hs h
  | frameDone => exact execFrameDone_inv hs h
  | writeHandle => cases h; exact hs.congr rfl
  | swap => cases h; exact hs.swapBuffers.congr rfl
  | takeReady => cases h; exact hs.takeReady.congr rfl
  | viewRead off n draw => obtain ⟨bs, -, rfl⟩ := execViewRead_next h; exact hs.congr rfl
  | viewRelease => cases h; exact hs.releaseView.congr rfl
  | checksum bytes => cases h; exact hs.congr rfl
  | frame seq payload =>
    obtain ⟨hle, rfl⟩ := execFrame_next h
    exact (hs.withEnvelope seq _ hle).congr rfl
  | radarPoll => cases h; exact hs.congr rfl
  | radarDrain expected answer => exact execRadarDrain_inv hs h
  | transmit answer =>
    obtain ⟨u, r, hu, rfl⟩ := execTransmit_next h
    exact (hs.sent hu).congr rfl
  | mlCmd => obtain ⟨-, rfl⟩ := execMlCmd_next h; exact hs.checkCommand.congr rfl
  | mlImgTake => exact execMlImgTake_inv hs h
  | mlImgBuild draw => exact execMlImgBuild_inv hs h
  | mlImgTx answer => exact execMlImgTx_inv hs h
  | mlRadPoll => obtain ⟨-, rfl⟩ := execMlRadPoll_next h; exact hs.congr rfl
  | mlRadDrain answer => exact execMlRadDrain_inv hs h
  | mlRadBuild => exact execMlRadBuild_inv hs h
  | mlRadTx answer => exact execMlRadTx_inv hs h
  | capWrite slot off data =>
    obtain ⟨hle, rfl⟩ := execCapWrite_next h
    exact (hs.writeBytes (sp := .lb slot) hle).congr rfl
  | radarBurst => cases h; exact hs.congr rfl
  | hostCmd byte => cases h; exact hs.congr rfl
  | reset => cases h; exact (State.resetOf_inv s.par).congr rfl
  | cmdStart => cases h; exact hs.congr rfl
  | cmdStop cmd => cases h; exact hs.congr rfl
  | envelope seq cks payload =>
    obtain ⟨hle, rfl⟩ := execEnvelope_next h
    exact (hs.withEnvelope seq cks hle).congr rfl
  | handoff sel rdy => cases h

theorem fetch_keeps_inv {s s1 : State} {i : Instr} (hs : s.Inv) (h : fetch s = .ok (i, s1)) :
    s1.Inv := by
  obtain ⟨-, -, rfl⟩ | ⟨rest, -, rfl⟩ := fetch_ok h <;> exact hs.congr rfl

/-! ## The statements -/

/-- Settles O53: `fetch` leaves every element the invariant speaks of, and every operation keeps it
(`exec_keeps_inv`). -/
theorem everyStepKeepsTheInvariant : Obligations.EveryStepKeepsTheInvariant := by
  intro s t hs h
  obtain ⟨i, s1, hf, he⟩ := step_next h
  exact exec_keeps_inv (fetch_keeps_inv hs hf) he

/-- Settles O9: SEL and RDY stand in no other operation's list (`exec_frame`). -/
theorem onlySwapAndTakeReadyWriteTheHandoff : Obligations.OnlySwapAndTakeReadyWriteTheHandoff := by
  intro i s t h hr
  refine ⟨fun hs => exec_handoff_of_swapsIn hs h, fun hn => ?_, fun hn ht hm => ?_⟩
  · exact exec_frame h .sel fun hmem => Bool.eq_false_iff.1 hn (swapsIn_of_sel_mem hmem hr)
  · exact exec_frame h .rdy fun hmem => Bool.eq_false_iff.1 hn (swapsIn_of_rdy_mem hmem hr ht hm)

/-- Settles O54: each operation's own list lies inside its agent's. -/
theorem agentsWriteOnlyWhatIsTheirs : Obligations.AgentsWriteOnlyWhatIsTheirs :=
  fun _ _ s _ ha h => (exec_frame h).mono (writesOf_subset_agentWrites s ha)

/-- Settles O52: after reset nothing is stored, no envelope is held and no view is taken. -/
theorem theInvariantHoldsAtReset : Obligations.TheInvariantHoldsAtReset :=
  fun p => ⟨State.resetOf_inv p, State.resetOf_inv Config.params⟩

end Sys2Proof.Machine
end

section
/-! PROOFS. The memory's statements (20_memory R61): MemRead and MemWrite are the only source of
`outOfRange`, so each shared operation gets one lemma that names every reason it can refuse with, and
only the two operations whose operands name an offset are left to leave a space. -/

namespace Sys2Proof.Machine

/-! ## Reads outside a space -/

/-- MemRead past the space (20_memory R61). -/
theorem memRead_of_lt {s : State} {sp : Space} {off n : Nat} (h : s.sizeOf sp < off + n) :
    memRead s sp off n = .error .outOfRange := if_pos h

/-- A read with no view held (41_buffer_pair R143). -/
theorem viewBytes_noView {s : State} (hv : s.view = none) (off n : Nat)
    (draw : Option (List Byte)) : viewBytes s off n draw = .error .noView := by
  simp only [viewBytes, hv]

/-- A read past the frame is refused before the draw is looked at (41_buffer_pair R143). -/
theorem viewBytes_outside {s : State} {v : Bool} (hv : s.view = some v) {off n : Nat}
    (h : s.par.raw.imgFrameBytes < off + n) (draw : Option (List Byte)) :
    viewBytes s off n draw = .error .outOfRange := by
  simp only [viewBytes, hv, memRead_of_lt (sp := .fb v) h]

/-- With no view and no hazard mark there is no frame to build from (45_stream_controller R223). -/
theorem buildImage_noView {s : State} (hv : s.view = none) (hs : s.viewStale = false) :
    buildImage s none = .error .noView := by
  simp only [buildImage, hs, viewBytes_noView hv]

/-! ## Why a shared operation refuses -/

/-- The phase check adds one reason to those of what it guards (30_encoding R102). -/
theorem inPhase_refused {p : Phase} {s : State} {k : Except Refusal State} {r : Refusal}
    (h : inPhase p s k = .refused r) : r = .wrongPhase ∨ k = .error r := by
  by_cases hp : s.phase = p
  · rw [inPhase_of k hp] at h
    cases k <;> cases h
    exact .inr rfl
  · rw [inPhase, if_neg hp] at h
    cases h
    exact .inl rfl

/-- A read inside the frame is refused for its view or its draw only (41_buffer_pair R143). -/
theorem viewBytes_error {s : State} {off n : Nat} {draw : Option (List Byte)} {r : Refusal}
    (hle : off + n ≤ s.par.raw.imgFrameBytes) (h : viewBytes s off n draw = .error r) :
    r = .noView ∨ r = .drawMismatch := by
  cases hv : s.view with
  | none =>
    rw [viewBytes_noView hv] at h
    cases h
    exact .inl rfl
  | some v =>
    have hread := memRead_of_le (s := s) (sp := .fb v) hle
    simp only [viewBytes, hv, hread] at h
    right
    split at h
    · cases h
    · split at h <;> cases h
      rfl
    · cases h
      rfl

/-- An envelope is refused for its payload's length only: one that fits fits EB
(44_envelope_framer R202). -/
theorem putEnvelope_error {s : State} {seq cks : Byte} {payload : List Byte} {r : Refusal}
    (h : putEnvelope s seq cks payload = .error r) :
    s.par.raw.maxPayload < payload.length ∧ r = .payloadTooLarge (tooLarge payload) := by
  rw [putEnvelope_eq] at h
  split at h <;> cases h
  exact ⟨‹_›, rfl⟩

/-- A whole image frame is never too large (00_scope R8), so an image is refused for its view or its
draw only (45_stream_controller R223). -/
theorem buildImage_error {s : State} {draw : Option StaleDraw} {r : Refusal}
    (h : buildImage s draw = .error r) : r = .noView ∨ r = .drawMismatch := by
  have himg := s.par.img_le
  unfold buildImage at h
  split at h
  · split at h
    · cases h
      exact viewBytes_error (Nat.zero_add _).le ‹_›
    · rename_i payload hview
      obtain ⟨-, -, -, hlen, -⟩ := viewBytes_ok hview
      obtain ⟨hlt, -⟩ := putEnvelope_error h
      omega
  · split at h
    · obtain ⟨hlt, -⟩ := putEnvelope_error h
      omega
    · cases h
      exact .inr rfl
  · cases h
    exact .inr rfl

/-- With EB_LEN in its range, a transmit's bytes are refused only where R225 does not allow the
answer. -/
theorem txBytesOf_error {s : State} {a : TxDraw} {r : Refusal}
    (hl : s.ebLen ≤ s.par.raw.maxPayload + 8) (h : txBytesOf s a = .error r) :
    ¬ TxAllowed s a ∧ r = .deliveredOutOfRange := by
  have hn : ¬ TxAllowed s a := fun ha => by
    rw [txBytesOf_of hl ha] at h
    cases h
  refine ⟨hn, ?_⟩
  obtain ⟨hok, hdel⟩ := not_or.1 hn
  unfold txBytesOf at h
  split at h
  · exact absurd ‹_› hok
  all_goals
    rw [if_pos (Nat.not_le.1 hdel)] at h
    cases h
    rfl

theorem sendEnvelope_error {s : State} {a : TxDraw} {r : Refusal}
    (hl : s.ebLen ≤ s.par.raw.maxPayload + 8) (h : sendEnvelope s a = .error r) :
    ¬ TxAllowed s a ∧ r = .deliveredOutOfRange := by
  unfold sendEnvelope at h
  split at h
  · cases h
    exact txBytesOf_error hl ‹_›
  · split at h <;> cases h

/-- A drain is refused for its answer's length only: the bytes of one that fits fit RB
(43_radar_adapter R182). -/
theorem drainRadar_error {s : State} {expected : Nat} {a : RadarDraw} {r : Refusal}
    (h : drainRadar s expected a = .error r) :
    a.data.length ≠ s.par.raw.radarFrameBytes ∧ r = .drawMismatch := by
  by_cases hlen : a.data.length = s.par.raw.radarFrameBytes
  · rw [drainRadar_eq hlen] at h
    cases h
  · simp only [drainRadar, radarDataOf, if_neg hlen] at h
    cases h
    exact ⟨hlen, rfl⟩

/-! ## Why an operation refuses -/

theorem execFrame_refused {seq : Byte} {payload : List Byte} {s : State} {r : Refusal}
    (h : execFrame seq payload s = .refused r) : r = .payloadTooLarge (tooLarge payload) := by
  unfold execFrame at h
  split at h <;> cases h
  exact (putEnvelope_error ‹_›).2

theorem execEnvelope_refused {seq cks : Byte} {payload : List Byte} {s : State} {r : Refusal}
    (h : execEnvelope seq cks payload s = .refused r) :
    r = .payloadTooLarge (tooLarge payload) := by
  unfold execEnvelope at h
  split at h <;> cases h
  exact (putEnvelope_error ‹_›).2

theorem execRadarDrain_refused {expected : U32} {a : RadarDraw} {s : State} {r : Refusal}
    (h : execRadarDrain expected a s = .refused r) : r = .drawMismatch := by
  unfold execRadarDrain at h
  split at h <;> cases h
  exact (drainRadar_error ‹_›).2

theorem execTransmit_refused {a : TxDraw} {s : State} {r : Refusal}
    (hl : s.ebLen ≤ s.par.raw.maxPayload + 8) (h : execTransmit a s = .refused r) :
    r = .deliveredOutOfRange := by
  unfold execTransmit at h
  split at h <;> cases h
  exact (sendEnvelope_error hl ‹_›).2

theorem execMlImgBuild_refused {draw : Option StaleDraw} {s : State} {r : Refusal}
    (h : execMlImgBuild draw s = .refused r) :
    r = .wrongPhase ∨ r = .noView ∨ r = .drawMismatch := by
  refine (inPhase_refused h).imp_right fun hk => ?_
  split at hk <;> cases hk
  exact buildImage_error ‹_›

theorem execMlImgTx_refused {answer : Option TxDraw} {s : State} {r : Refusal}
    (hl : s.ebLen ≤ s.par.raw.maxPayload + 8) (h : execMlImgTx answer s = .refused r) :
    r = .wrongPhase ∨ r = .deliveredOutOfRange ∨ r = .drawMismatch := by
  refine (inPhase_refused h).imp_right fun hk => ?_
  split at hk
  · split at hk <;> cases hk
    exact .inl (sendEnvelope_error hl ‹_›).2
  · cases hk
  · cases hk
    exact .inr rfl

theorem execMlRadDrain_refused {a : RadarDraw} {s : State} {r : Refusal}
    (h : execMlRadDrain a s = .refused r) : r = .wrongPhase ∨ r = .drawMismatch := by
  refine (inPhase_refused h).imp_right fun hk => ?_
  split at hk <;> cases hk
  exact (drainRadar_error ‹_›).2

/-- The radar buffer's own bytes are read and fit an envelope (00_scope R8), so only the phase can be
wrong (45_stream_controller R228). -/
theorem execMlRadBuild_refused {s : State} {r : Refusal} (h : execMlRadBuild s = .refused r) :
    r = .wrongPhase := by
  refine (inPhase_refused h).resolve_right fun hk => ?_
  have hread := memRead_of_le (s := s) (sp := .rb) (Nat.zero_add s.par.raw.radarFrameBytes).le
  have hlen : (s.readBytes .rb 0 s.par.raw.radarFrameBytes).length ≤ s.par.raw.maxPayload := by
    simpa using s.par.radar_le
  rw [hread] at hk
  simp only [buildFrame, putEnvelope_of_le hlen] at hk
  split at hk <;> cases hk

theorem execMlRadTx_refused {a : TxDraw} {s : State} {r : Refusal}
    (hl : s.ebLen ≤ s.par.raw.maxPayload + 8) (h : execMlRadTx a s = .refused r) :
    r = .wrongPhase ∨ r = .deliveredOutOfRange := by
  refine (inPhase_refused h).imp_right fun hk => ?_
  split at hk
  · split at hk <;> cases hk
    exact (sendEnvelope_error hl ‹_›).2
  · cases hk

/-! ## The statements -/

/-- The part of the invariant a transmit needs (10_state R24). -/
theorem State.Inv.ebLen_le {s : State} (h : s.Inv) : s.ebLen ≤ s.par.raw.maxPayload + 8 := by
  have := h.ebLen
  omega

/-- Settles O55: the reasons of every operation that can be refused, one by one. What is left either
always answers a next state or is the control word's layout, which is no operation. -/
theorem noOtherOperationLeavesItsSpace : Obligations.NoOtherOperationLeavesItsSpace := by
  intro i s hs hcap hview h
  cases i with
  | lineDone =>
    have hnext := execLineDone_eq s
    cases hnext.symm.trans h
  | frameDone =>
    obtain ⟨t, hnext, -⟩ := execFrameDone_sel s
    cases hnext.symm.trans h
  | viewRead off n draw => exact hview off n draw rfl
  | capWrite slot off data => exact hcap slot off data rfl
  | frame seq payload => cases execFrame_refused h
  | envelope seq cks payload => cases execEnvelope_refused h
  | radarDrain expected answer => cases execRadarDrain_refused h
  | transmit answer => cases execTransmit_refused hs.ebLen_le h
  | mlCmd => obtain hr | hk := inPhase_refused h <;> contradiction
  | mlImgTake => obtain hr | hk := inPhase_refused h <;> contradiction
  | mlRadPoll => obtain hr | hk := inPhase_refused h <;> contradiction
  | mlImgBuild draw => obtain hr | hr | hr := execMlImgBuild_refused h <;> cases hr
  | mlImgTx answer => obtain hr | hr | hr := execMlImgTx_refused hs.ebLen_le h <;> cases hr
  | mlRadDrain answer => obtain hr | hr := execMlRadDrain_refused h <;> cases hr
  | mlRadBuild => cases execMlRadBuild_refused h
  | mlRadTx answer => obtain hr | hr := execMlRadTx_refused hs.ebLen_le h <;> cases hr
  | _ => cases h

/-- Settles O11: with a view the range is checked before its mark and draw; ML_IMG_BUILD reads an
unmarked view as VIEW_READ does. -/
theorem aReadOutsideTheFrameIsRefused : Obligations.AReadOutsideTheFrameIsRefused := by
  intro off n draw s
  refine ⟨fun hview hlt => ?past, fun hp hv hs => ?noView⟩
  case past =>
    obtain ⟨v, hv⟩ := Option.ne_none_iff_exists'.1 hview
    have hbytes := viewBytes_outside hv hlt draw
    show execViewRead off n draw s = .refused .outOfRange
    rw [execViewRead, hbytes]
  case noView =>
    show execMlImgBuild none s = .refused .noView
    rw [execMlImgBuild, inPhase_of _ hp, buildImage_noView hv hs, outcome]

end Sys2Proof.Machine
end

section
/-! PROOFS. The encoding's statements (30_encoding R91, R96 to R99, R102, R104): reading back what
the encoder writes, operand by operand and then row by row; what a step does with bytes that are a
record and with bytes that are none; and the refusals of a draw or a phase that does not fit. -/

namespace Sys2Proof.Machine

/-! ## Numbers and byte sequences read back -/

/-- `unle32` inverts `le32` on every number of 32 bits (00_scope R11). -/
theorem unle32_le32 {n : Nat} (h : n < 4294967296) :
    unle32 (BitVec.ofNat 8 n) (BitVec.ofNat 8 (n / 256)) (BitVec.ofNat 8 (n / 65536))
      (BitVec.ofNat 8 (n / 16777216)) = n := by
  simp only [unle32, BitVec.toNat_ofNat]
  omega

theorem readNat32_le32 {n : Nat} (h : n < 4294967296) (rest : List Byte) :
    readNat32 (le32 n ++ rest) = some (n, rest) := by
  simp only [le32, List.cons_append, List.nil_append, readNat32, unle32_le32 h]

@[simp] theorem readNat32_toNat (v : U32) (rest : List Byte) :
    readNat32 (le32 v.toNat ++ rest) = some (v.toNat, rest) :=
  readNat32_le32 v.isLt rest

@[simp] theorem takeBytes_append (bs rest : List Byte) :
    takeBytes bs.length (bs ++ rest) = some (bs, rest) := by
  induction bs with
  | nil => rfl
  | cons b bs ih => simp only [List.length_cons, List.cons_append, takeBytes, ih]

theorem readCounted_counted {bs : List Byte} (h : fitsU32 bs.length = true)
    (rest : List Byte) : readCounted (counted bs ++ rest) = some (bs, rest) := by
  simp only [readCounted, counted, List.append_assoc, readNat32_le32 (of_decide_eq_true h),
    takeBytes_append]

/-! ## Operands with a stated range, and the draws, read back -/

@[simp] theorem outcomeOf_outcomeCode (o : TxOutcome) : outcomeOf (outcomeCode o) = some o := by
  cases o <;> rfl

@[simp] theorem bitOf_bitCode (b : Bool) : bitOf (bitCode b) = some b := by
  cases b <;> rfl

@[simp] theorem readTx_txBytes (a : TxDraw) (rest : List Byte) :
    readTx (txBytes a ++ rest) = .ok (a, rest) := by
  simp [readTx, txBytes]

theorem radarDrawOk_iff {c : Ctx} {a : RadarDraw} :
    radarDrawOk c a = true ↔ a.data.length = c.par.raw.radarFrameBytes :=
  decide_eq_true_iff

theorem readRadar_radarBytes {c : Ctx} {a : RadarDraw} (h : radarDrawOk c a = true)
    (rest : List Byte) :
    readRadar c.par.raw.radarFrameBytes (radarBytes a ++ rest) = .ok (a, rest) := by
  simp [readRadar, radarBytes, ← radarDrawOk_iff.1 h]

/-! ## The operands of each operation read back (R99) -/

theorem readViewRead_bytes {stale : Bool} {n : U32} {draw : Option (List Byte)}
    (h : viewDrawOk stale n draw = true) (off : U32) (rest : List Byte) :
    readViewRead stale ((le32 off.toNat ++ (le32 n.toNat ++ draw.getD [])) ++ rest) =
      .ok (.viewRead off n draw, rest) := by
  cases draw with
  | none =>
    obtain rfl : stale = false := by simpa [viewDrawOk] using h
    simp [readViewRead]
  | some d =>
    obtain ⟨rfl, hd⟩ : stale = true ∧ d.length = n.toNat := by simpa [viewDrawOk] using h
    have htake : takeBytes n.toNat (d ++ rest) = some (d, rest) := hd ▸ takeBytes_append d rest
    simp [readViewRead, htake]

theorem readChecksum_bytes {bs : List Byte} (h : fitsU32 bs.length = true) (rest : List Byte) :
    readChecksum (counted bs ++ rest) = .ok (.checksum bs, rest) := by
  simp only [readChecksum, readCounted_counted h]

theorem readFrame_bytes {payload : List Byte} (h : fitsU32 payload.length = true) (seq : Byte)
    (rest : List Byte) :
    readFrame (seq :: (counted payload ++ rest)) = .ok (.frame seq payload, rest) := by
  simp only [readFrame, readCounted_counted h]

theorem readRadarDrain_bytes {c : Ctx} {a : RadarDraw} (h : radarDrawOk c a = true)
    (expected : U32) (rest : List Byte) :
    readRadarDrain c.par.raw.radarFrameBytes ((le32 expected.toNat ++ radarBytes a) ++ rest) =
      .ok (.radarDrain expected a, rest) := by
  simp [readRadarDrain, readRadar_radarBytes h]

theorem readMlRadDrain_bytes {c : Ctx} {a : RadarDraw} (h : radarDrawOk c a = true)
    (rest : List Byte) :
    readMlRadDrain c.par.raw.radarFrameBytes (radarBytes a ++ rest) =
      .ok (.mlRadDrain a, rest) := by
  simp only [readMlRadDrain, readRadar_radarBytes h]

theorem readTransmit_bytes (a : TxDraw) (rest : List Byte) :
    readTransmit (txBytes a ++ rest) = .ok (.transmit a, rest) := by
  simp only [readTransmit, readTx_txBytes]

theorem readMlRadTx_bytes (a : TxDraw) (rest : List Byte) :
    readMlRadTx (txBytes a ++ rest) = .ok (.mlRadTx a, rest) := by
  simp only [readMlRadTx, readTx_txBytes]

/-- ML_IMG_TX has its answer exactly while STREAMING = 1. -/
theorem decode_mlImgTx {c : Ctx} {answer : Option TxDraw}
    (h : WellFormed c (.mlImgTx answer) = true) (rest : List Byte) :
    decode c .opsel (encode c (.mlImgTx answer) ++ rest) = .ok (.mlImgTx answer, rest) := by
  have hs : answer.isSome = c.streaming := eq_of_beq h
  cases answer with
  | none =>
    show readMlImgTx c.streaming rest = .ok (.mlImgTx none, rest)
    rw [← hs]
    rfl
  | some a =>
    show readMlImgTx c.streaming (txBytes a ++ rest) = .ok (.mlImgTx (some a), rest)
    simp [← hs, readMlImgTx]

/-- ML_IMG_BUILD has its draw exactly on a stale view, and the draw is a whole frame. -/
theorem decode_mlImgBuild {c : Ctx} {draw : Option StaleDraw} (h : staleDrawOk c draw = true)
    (rest : List Byte) :
    decode c .opsel (encode c (.mlImgBuild draw) ++ rest) = .ok (.mlImgBuild draw, rest) := by
  cases draw with
  | none =>
    have hs : c.stale = false := by simpa [staleDrawOk] using h
    show readMlImgBuild c.stale c.par.raw.imgFrameBytes rest = .ok (.mlImgBuild none, rest)
    simp [hs, readMlImgBuild]
  | some d =>
    obtain ⟨hs, hd⟩ : c.stale = true ∧ d.payload.length = c.par.raw.imgFrameBytes := by
      simpa [staleDrawOk] using h
    show readMlImgBuild c.stale c.par.raw.imgFrameBytes (d.checksum :: (d.payload ++ rest)) =
      .ok (.mlImgBuild (some d), rest)
    simp [hs, ← hd, readMlImgBuild]

theorem readCapWrite_bytes {data : List Byte} (h : fitsU32 data.length = true) (slot : Bool)
    (off : U32) (rest : List Byte) :
    readCapWrite (bitCode slot :: ((le32 off.toNat ++ counted data) ++ rest)) =
      .ok (.capWrite slot off data, rest) := by
  simp [readCapWrite, readCounted_counted h]

/-! ## The layouts that are no records read back (R91, R96 to R98) -/

theorem decodeCommand_cmdStart (p : Params) : decodeCommand p p.cmdStart = .cmdStart := if_pos rfl

theorem decodeCommand_cmdStop {p : Params} {b : Byte} (h : b ≠ p.cmdStart) :
    decodeCommand p b = .cmdStop b := if_neg h

theorem decodeEnvelope_envelopeBytes {payload : List Byte} (h : fitsU32 payload.length = true)
    (p : Params) (seq cks : Byte) (rest : List Byte) :
    decodeEnvelope p (envelopeBytes p seq cks payload ++ rest) =
      .ok (.envelope seq cks payload, rest) := by
  simp [decodeEnvelope, envelopeBytes, readNat32_le32 (of_decide_eq_true h)]

theorem decodeHandoff_handoffWord (sel rdy : Bool) :
    decodeHandoff ((handoffWord sel rdy).zeroExtend 8) = .ok (.handoff sel rdy) := by
  cases sel <;> cases rdy <;> rfl

/-! ## Decoding inverts encoding -/

/-- A row without operands is its code alone; every other row is the reading lemma of its operands. -/
theorem decode_encode {c : Ctx} {i : Instr} (rest : List Byte) (h : WellFormed c i = true) :
    decode c i.format (encode c i ++ rest) = .ok (i, rest) := by
  cases i with
  | viewRead off n draw => exact readViewRead_bytes h off rest
  | checksum bytes => exact readChecksum_bytes h rest
  | frame seq payload => exact readFrame_bytes h seq rest
  | radarDrain expected answer => exact readRadarDrain_bytes h expected rest
  | transmit answer => exact readTransmit_bytes answer rest
  | mlImgBuild draw => exact decode_mlImgBuild h rest
  | mlImgTx answer => exact decode_mlImgTx h rest
  | mlRadDrain answer => exact readMlRadDrain_bytes h rest
  | mlRadTx answer => exact readMlRadTx_bytes answer rest
  | capWrite slot off data => exact readCapWrite_bytes h slot off rest
  | cmdStart =>
    show Except.ok (decodeCommand c.par.raw c.par.raw.cmdStart, rest) = _
    rw [decodeCommand_cmdStart]
  | cmdStop cmd =>
    show Except.ok (decodeCommand c.par.raw cmd, rest) = _
    rw [decodeCommand_cmdStop (bne_iff_ne.1 h)]
  | envelope seq cks payload => exact decodeEnvelope_envelopeBytes h c.par.raw seq cks rest
  | handoff sel rdy =>
    show decode c .controlWord ((handoffWord sel rdy).zeroExtend 8 :: rest) = _
    simp only [decode, decodeHandoff_handoffWord]
  | _ => rfl

/-! ## Fetching a record -/

theorem step_of_record {s : State} (ht : s.trace ≠ []) {i : Instr} {rest : List Byte}
    (h : decodeRecord s.ctx s.trace = .ok (i, rest)) : step s = exec i (s.setTrace rest) := by
  obtain ⟨b, bs, hb⟩ := List.exists_cons_of_ne_nil ht
  rw [hb] at h
  simp only [step, fetch, hb, h]

theorem step_of_no_record {s : State} (ht : s.trace ≠ []) {e : DecodeError}
    (h : decodeRecord s.ctx s.trace = .error e) : step s = .refused (refusalOf e) := by
  obtain ⟨b, bs, hb⟩ := List.exists_cons_of_ne_nil ht
  rw [hb] at h
  simp only [step, fetch, hb, h]

/-- The ranges of OPSEL codes that R99 leaves unassigned (R102). -/
theorem decodeOpsel_unassigned {code : Byte}
    (h : code.toNat = 0 ∨ (0x0D ≤ code.toNat ∧ code.toNat ≤ 0x0F) ∨
      (0x18 ≤ code.toNat ∧ code.toNat ≤ 0x1F) ∨ (0x23 ≤ code.toNat ∧ code.toNat ≤ 0x3E) ∨
      0x40 ≤ code.toNat) (c : Ctx) (bs : List Byte) :
    decodeOpsel c code bs = .error (.unknownOpsel code) := by
  unfold decodeOpsel
  split
  case h_25 => rfl -- the table's default row; in each of the 24 before it the code is assigned
  all_goals omega

/-! ## Draws that do not fit (log entry 13) -/

/-- VIEW_READ in its range asks for its draw by the hazard mark (41_buffer_pair R143). -/
theorem viewBytes_drawMismatch {s : State} {off : Nat} {n : U32} {draw : Option (List Byte)}
    (hv : s.view ≠ none) (hle : off + n.toNat ≤ s.par.raw.imgFrameBytes)
    (h : viewDrawOk s.viewStale n draw = false) :
    viewBytes s off n.toNat draw = .error .drawMismatch := by
  obtain ⟨v, hv⟩ := Option.ne_none_iff_exists'.1 hv
  have hread := memRead_of_le (s := s) (sp := .fb v) hle
  simp only [viewBytes, hv, hread]
  split
  · rename_i hs
    rw [hs] at h
    cases h
  · rename_i d hs
    have hlen : d.length ≠ n.toNat := by simpa [viewDrawOk, hs] using h
    rw [if_neg hlen]
  · rfl

/-- ML_IMG_BUILD asks for its draw by the hazard mark (45_stream_controller R223). -/
theorem buildImage_drawMismatch {s : State} {draw : Option StaleDraw}
    (h : staleDrawOk s.ctx draw = false) : buildImage s draw = .error .drawMismatch := by
  unfold buildImage
  split
  · rename_i hs
    simp [staleDrawOk, State.ctx, hs] at h
  · rename_i d hs
    have hlen : d.payload.length ≠ s.par.raw.imgFrameBytes := by
      simpa [staleDrawOk, State.ctx, hs] using h
    rw [if_neg hlen]
  · rfl

/-- A radar answer of another length than a radar frame (43_radar_adapter R182). -/
theorem drainRadar_drawMismatch {s : State} {a : RadarDraw}
    (h : a.data.length ≠ s.par.raw.radarFrameBytes) (expected : Nat) :
    drainRadar s expected a = .error .drawMismatch := by
  simp only [drainRadar, radarDataOf, if_neg h]

/-- ML_IMG_TX asks for TRANSPORT's answer while STREAMING = 1 only (45_stream_controller R224). -/
theorem execMlImgTx_drawMismatch {s : State} {answer : Option TxDraw} (hp : s.phase = .imgTx)
    (h : answer.isSome ≠ s.streaming) :
    execMlImgTx answer s = .refused .drawMismatch := by
  unfold execMlImgTx
  rw [inPhase_of _ hp]
  split
  · rename_i hs
    exact absurd hs.symm h
  · rename_i hs
    exact absurd hs.symm h
  · rfl

/-! ## ML operations out of phase -/

theorem inPhase_ne {p : Phase} {s : State} {k : Except Refusal State} (h : s.phase ≠ p) :
    inPhase p s k = .refused .wrongPhase := if_neg h

/-- The code `0x10 + c` names phase `c` (R99). -/
theorem mlPhaseOf_mlCode (c : BitVec 3) : mlPhaseOf (0x10 + c.zeroExtend 8) = some c := by
  revert c
  decide

/-- A record's own code decides which phase it runs in (R102): the eight ML rows check it, and no
other row's code names a phase. -/
theorem exec_outOfPhase {i : Instr} {s : State} {c : BitVec 3} (hf : i.format = .opsel)
    (hc : (encode s.ctx i).head?.bind mlPhaseOf = some c) (hp : s.phase ≠ Phase.ofCode c) :
    exec i s = .refused .wrongPhase := by
  cases i with
  | mlCmd => cases hc; exact inPhase_ne hp
  | mlImgTake => cases hc; exact inPhase_ne hp
  | mlImgBuild draw => cases draw <;> cases hc <;> exact inPhase_ne hp
  | mlImgTx answer => cases answer <;> cases hc <;> exact inPhase_ne hp
  | mlRadPoll => cases hc; exact inPhase_ne hp
  | mlRadDrain answer => cases hc; exact inPhase_ne hp
  | mlRadBuild => cases hc; exact inPhase_ne hp
  | mlRadTx answer => cases hc; exact inPhase_ne hp
  | cmdStart => cases hf
  | cmdStop cmd => cases hf
  | envelope seq cks payload => cases hf
  | handoff sel rdy => cases hf
  | _ => cases hc

/-! ## The statements -/

/-- Settles O50: `decode_encode`, row by row. -/
theorem decodingAnEncodedOperationGivesItBack :
    Obligations.DecodingAnEncodedOperationGivesItBack :=
  fun _ _ rest => decode_encode rest

/-- Settles O24: a payload that fits is put into EB, and `ret` is written after it. -/
theorem anEnvelopeRowIsHeldInEb : Obligations.AnEnvelopeRowIsHeldInEb := by
  intro seq cks payload s h
  refine ⟨(s.withEnvelope seq cks payload).returns .none, ?next, rfl, ?held, ?frame⟩
  case next =>
    show execEnvelope seq cks payload s = _
    rw [execEnvelope, putEnvelope_of_le h]
  case held =>
    have hbytes : [s.par.raw.sync0, s.par.raw.sync1, seq] ++ le32 payload.length ++ [cks] ++ payload
        = envelopeBytes s.par.raw seq cks payload := rfl
    rw [hbytes]
    exact (putEnvelope_holds s seq cks payload).of_same (fun _ => rfl) rfl
  case frame =>
    exact (frame_withEnvelope s seq cks payload).comp (State.returns_frame _ _)

/-- Settles O26: the byte is compared with CMD_START alone, and each command writes its own flags. -/
theorem oneByteStartsAndEveryOtherStops : Obligations.OneByteStartsAndEveryOtherStops :=
  ⟨rfl, fun s =>
    ⟨decodeCommand_cmdStart s.par.raw, fun _ => decodeCommand_cmdStop,
      ⟨_, rfl, rfl, rfl, rfl, s.startStreaming_frame.comp (State.returns_frame _ _)⟩,
      fun _ => ⟨_, rfl, rfl, rfl, s.stopStreaming_frame.comp (State.returns_frame _ _)⟩⟩⟩

/-- Settles O37: each operation's draw check fails, inside its phase where it has one. -/
theorem aDrawThatDoesNotFitIsRefused : Obligations.ADrawThatDoesNotFitIsRefused := by
  intro s
  refine ⟨fun off n draw hv hle hd => ?viewRead, fun expected a ha => ⟨?drain, fun hp => ?mlDrain⟩,
    fun draw hp hd => ?build, fun _ => execMlImgTx_drawMismatch⟩
  case viewRead =>
    show execViewRead off n draw s = _
    rw [execViewRead, viewBytes_drawMismatch hv hle hd]
  case drain =>
    show execRadarDrain expected a s = _
    rw [execRadarDrain, drainRadar_drawMismatch ha]
  case mlDrain =>
    show execMlRadDrain a s = _
    rw [execMlRadDrain, inPhase_of _ hp, drainRadar_drawMismatch ha, outcome]
  case build =>
    show execMlImgBuild draw s = _
    rw [execMlImgBuild, inPhase_of _ hp, buildImage_drawMismatch hd, outcome]

/-- Settles O38: the code at the record's head names the phase the operation checks. -/
theorem anMlOperationOutOfPhaseIsRefused : Obligations.AnMlOperationOutOfPhaseIsRefused := by
  intro i s c hhead hf hp
  refine exec_outOfPhase hf ?_ hp
  rw [hhead, Option.bind_some, mlPhaseOf_mlCode]

/-- Settles O46: the row's arm is the refusal itself. -/
theorem theControlWordRowIsNoOperation : Obligations.TheControlWordRowIsNoOperation :=
  fun _ _ _ => rfl

/-- Settles O47: with a record pending, `fetch` is the decoder at the trace's head. -/
theorem aStepRunsTheNextRecord : Obligations.AStepRunsTheNextRecord :=
  fun _ ht => ⟨fun _ _ => step_of_record ht, fun _ => step_of_no_record ht⟩

/-- Settles O49: such a code is no row of the decoder's table, and the step refuses with its error. -/
theorem unassignedCodesAreRefused : Obligations.UnassignedCodesAreRefused := by
  intro s code bs ht hcode
  have hdec : decodeRecord s.ctx s.trace = .error (.unknownOpsel code) := by
    rw [ht]
    exact decodeOpsel_unassigned hcode s.ctx bs
  exact step_of_no_record (by simp [ht]) hdec

/-- Settles O51: the short words are evaluated; the envelope's bytes are what R91 gives for a payload
of 307200 bytes, so they read back. -/
theorem wordsFromTheSpecDecode : Obligations.WordsFromTheSpecDecode := by
  refine ⟨fun c => ⟨rfl, rfl, rfl⟩, rfl, fun cks payload hlen => ?_⟩
  have hfits : fitsU32 payload.length = true := by rw [hlen]; decide
  have hback := decodeEnvelope_envelopeBytes hfits Config.params.raw 0x80 cks []
  rwa [List.append_nil, envelopeBytes, hlen] at hback

end Sys2Proof.Machine
end

section
/-! PROOFS. The Checksum Unit's statements (40_checksum R121 to R125). A round, and so the eight
rounds of a byte, is linear over xor; a run over bytes is continued from its running value; and with
bit 7 in CRC_POLY a round loses nothing. -/

namespace Sys2Proof.Machine

/-! ## One round -/

/-- The round as R122 gives it: the shifted value, with CRC_POLY where the low bit was 1. -/
theorem crcRound_eq (p : Params) (v : Byte) :
    crcRound p v = (v >>> 1) ^^^ (if v.getLsbD 0 then p.crcPoly else 0#8) := by
  rw [crcRound]
  split
  · rfl
  · exact BitVec.xor_zero.symm

@[simp] theorem crcRound_zero (p : Params) : crcRound p 0#8 = 0#8 := rfl

@[simp] theorem crcRound_one (p : Params) : crcRound p 1#8 = p.crcPoly := BitVec.zero_xor

/-- CRC_POLY times the low bit is linear in the value. -/
theorem ite_xor_poly (poly : Byte) (a b : Bool) :
    (if a ^^ b then poly else 0#8) = (if a then poly else 0#8) ^^^ (if b then poly else 0#8) := by
  cases a <;> cases b <;> simp

theorem crcRound_xor (p : Params) (a b : Byte) :
    crcRound p (a ^^^ b) = crcRound p a ^^^ crcRound p b := by
  simp only [crcRound_eq, BitVec.ushiftRight_xor_distrib, BitVec.getLsbD_xor, ite_xor_poly]
  ac_rfl

/-- Where CRC_POLY has bit 7, a round moves the low bit there: the shift brings no bit in at the
top. -/
theorem crcRound_getLsbD_seven {p : Params} (h : p.crcPoly.getLsbD 7 = true) (v : Byte) :
    (crcRound p v).getLsbD 7 = v.getLsbD 0 := by
  have htop : (v >>> 1).getLsbD 7 = false := by
    rw [BitVec.getLsbD_ushiftRight, BitVec.getLsbD_of_ge _ _ (by decide)]
  rw [crcRound_eq, BitVec.getLsbD_xor, htop]
  cases v.getLsbD 0 <;> simp [h]

/-- The low bit and the rest make up the value. -/
theorem eq_of_lowBit_of_shift {a b : Byte} (hlow : a.getLsbD 0 = b.getLsbD 0)
    (hrest : a >>> 1 = b >>> 1) : a = b := by
  refine BitVec.eq_of_getLsbD_eq fun i _ => ?_
  cases i with
  | zero => exact hlow
  | succ k =>
    have hk := congrArg (·.getLsbD k) hrest
    simpa only [BitVec.getLsbD_ushiftRight, Nat.add_comm] using hk

/-- R125 (g): bit 7 of the result gives the low bit back, and with it what was xored in. -/
theorem crcRound_injective {p : Params} (h : p.crcPoly.getLsbD 7 = true) :
    Function.Injective (crcRound p) := by
  intro a b hab
  have hlow : a.getLsbD 0 = b.getLsbD 0 := by
    rw [← crcRound_getLsbD_seven h a, hab, crcRound_getLsbD_seven h b]
  refine eq_of_lowBit_of_shift hlow ?_
  rwa [crcRound_eq, crcRound_eq, hlow, BitVec.xor_left_inj] at hab

/-! ## The rounds of a byte -/

theorem crcRounds_eq_iterate (p : Params) (n : Nat) (v : Byte) :
    crcRounds p n v = (crcRound p)^[n] v := by
  induction n generalizing v with
  | zero => rfl
  | succ n ih => exact ih (crcRound p v)

theorem crcRounds_xor (p : Params) (n : Nat) (a b : Byte) :
    crcRounds p n (a ^^^ b) = crcRounds p n a ^^^ crcRounds p n b := by
  induction n generalizing a b with
  | zero => rfl
  | succ n ih => rw [crcRounds, crcRound_xor, ih]; rfl

theorem crcByte_eq_iterate (p : Params) (v : Byte) : crcByte p v = (crcRound p)^[8] v :=
  crcRounds_eq_iterate p 8 v

@[simp] theorem crcByte_zero (p : Params) : crcByte p 0#8 = 0#8 := by
  rw [crcByte_eq_iterate, Function.iterate_fixed (crcRound_zero p)]

theorem crcByte_xor (p : Params) (a b : Byte) :
    crcByte p (a ^^^ b) = crcByte p a ^^^ crcByte p b :=
  crcRounds_xor p 8 a b

theorem crcByte_injective {p : Params} (h : p.crcPoly.getLsbD 7 = true) :
    Function.Injective (crcByte p) := by
  rw [funext (crcByte_eq_iterate p)]
  exact (crcRound_injective h).iterate 8

/-- 0x80 meets no set low bit in seven rounds; the eighth turns the 1 that is left into CRC_POLY. -/
theorem crcByte_0x80 (p : Params) : crcByte p 0x80 = p.crcPoly := by
  have hseven : (crcRound p)^[7] 0x80 = 1#8 := by simp [crcRound]
  rw [crcByte_eq_iterate, Function.iterate_succ_apply', hseven, crcRound_one]

/-! ## A byte as the xor of its set bits -/

/-- The xor of `f i` over the set bits `i` of `v` below `n` (R125 (f)). -/
def xorSetBits (v : Byte) (f : Nat → Byte) (n : Nat) : Byte :=
  (List.range n).foldl (fun acc i => acc ^^^ (if v.getLsbD i then f i else 0#8)) 0#8

theorem xorSetBits_succ (v : Byte) (f : Nat → Byte) (n : Nat) :
    xorSetBits v f (n + 1) = xorSetBits v f n ^^^ (if v.getLsbD n then f n else 0#8) := by
  rw [xorSetBits, List.range_succ, List.foldl_append]
  rfl

theorem getLsbD_setBit (v : Byte) (n j : Nat) :
    (if v.getLsbD n then BitVec.ofNat 8 (2 ^ n) else 0#8).getLsbD j =
      (decide (n = j) && v.getLsbD j) := by
  by_cases hv : v.getLsbD n = true
  · have hn : n < 8 := BitVec.lt_of_getLsbD hv
    rw [if_pos hv, BitVec.getLsbD_ofNat, Nat.testBit_two_pow]
    by_cases hj : n = j
    · simp [← hj, hn, hv]
    · simp [hj]
  · rw [if_neg hv, BitVec.getLsbD_zero]
    by_cases hj : n = j
    · simp [← hj, hv]
    · simp [hj]

theorem getLsbD_xorSetBits_pow (v : Byte) (n j : Nat) :
    (xorSetBits v (fun i => BitVec.ofNat 8 (2 ^ i)) n).getLsbD j =
      (decide (j < n) && v.getLsbD j) := by
  induction n with
  | zero => simp [xorSetBits]
  | succ n ih =>
    rw [xorSetBits_succ, BitVec.getLsbD_xor, ih, getLsbD_setBit]
    rcases Nat.lt_trichotomy j n with hlt | rfl | hgt
    · simp [hlt, hlt.ne', Nat.lt_succ_of_lt hlt]
    · simp
    · simp [hgt.ne, Nat.not_lt.2 hgt.le, Nat.not_lt.2 hgt]

/-- A byte is the xor of its powers of two. -/
theorem xorSetBits_pow (v : Byte) : xorSetBits v (fun i => BitVec.ofNat 8 (2 ^ i)) 8 = v := by
  refine BitVec.eq_of_getLsbD_eq fun j hj => ?_
  rw [getLsbD_xorSetBits_pow, decide_eq_true hj, Bool.true_and]

theorem crcByte_xorSetBits (p : Params) (v : Byte) (f : Nat → Byte) (n : Nat) :
    crcByte p (xorSetBits v f n) = xorSetBits v (fun i => crcByte p (f i)) n := by
  induction n with
  | zero => exact crcByte_zero p
  | succ n ih =>
    rw [xorSetBits_succ, xorSetBits_succ, crcByte_xor, ih, apply_ite (crcByte p), crcByte_zero]

/-- R125 (f): the eight rounds are fixed by their values on the powers of two. -/
theorem crcByte_eq_xorSetBits (p : Params) (v : Byte) :
    crcByte p v = xorSetBits v (fun i => crcByte p (BitVec.ofNat 8 (2 ^ i))) 8 := by
  rw [← crcByte_xorSetBits, xorSetBits_pow]

/-! ## The running value over a sequence -/

theorem crcFrom_append (p : Params) (crc : Byte) (xs ys : List Byte) :
    crcFrom p crc (xs ++ ys) = crcFrom p (crcFrom p crc xs) ys := by
  induction xs generalizing crc with
  | nil => rfl
  | cons x xs ih => exact ih _

theorem checksum_append (p : Params) (xs ys : List Byte) :
    checksum p (xs ++ ys) = crcFrom p (checksum p xs) ys :=
  crcFrom_append p p.crcSeed xs ys

/-- R125 (d). -/
theorem checksum_concat (p : Params) (xs : List Byte) (b : Byte) :
    checksum p (xs ++ [b]) = crcByte p (checksum p xs ^^^ b) :=
  checksum_append p xs [b]

theorem crcFrom_zeros (p : Params) (n : Nat) : crcFrom p 0#8 (List.replicate n 0#8) = 0#8 := by
  induction n with
  | zero => rfl
  | succ n ih => rwa [List.replicate_succ, crcFrom, BitVec.xor_self, crcByte_zero]

/-- R125 (c): the seed cancels itself. -/
theorem checksum_seed_zeros (p : Params) (n : Nat) :
    checksum p (p.crcSeed :: List.replicate n 0#8) = 0#8 := by
  rw [checksum, crcFrom, BitVec.xor_self, crcByte_zero, crcFrom_zeros]

theorem crcFrom_xor (p : Params) (a b : Byte) {xs ys : List Byte} (h : xs.length = ys.length) :
    crcFrom p a xs ^^^ crcFrom p b ys = crcFrom p (a ^^^ b) (List.zipWith (· ^^^ ·) xs ys) := by
  induction xs generalizing a b ys with
  | nil => cases List.length_eq_zero_iff.1 h.symm; rfl
  | cons x xs ih =>
    obtain ⟨y, ys, rfl⟩ := List.exists_cons_of_length_eq_add_one h.symm
    have hbyte : crcByte p (a ^^^ x) ^^^ crcByte p (b ^^^ y) =
        crcByte p ((a ^^^ b) ^^^ (x ^^^ y)) := by
      rw [← crcByte_xor]
      congr 1
      ac_rfl
    rw [crcFrom, crcFrom, ih _ _ (Nat.succ.inj h), hbyte, List.zipWith_cons_cons, crcFrom]

/-- R125 (e): the seeds cancel. -/
theorem checksum_xor (p : Params) {xs ys : List Byte} (h : xs.length = ys.length) :
    checksum p xs ^^^ checksum p ys = crcFrom p 0#8 (List.zipWith (· ^^^ ·) xs ys) := by
  rw [checksum, checksum, crcFrom_xor p _ _ h, BitVec.xor_self]

/-- A sequence followed by its own checksum (vector T-CU-7). -/
theorem checksum_append_self (p : Params) (xs : List Byte) :
    checksum p (xs ++ [checksum p xs]) = 0#8 := by
  rw [checksum_concat, BitVec.xor_self, crcByte_zero]

/-- With bit 7 in CRC_POLY a difference in the running value outlives every later byte. -/
theorem crcFrom_injective {p : Params} (h : p.crcPoly.getLsbD 7 = true) (bs : List Byte) :
    Function.Injective fun crc => crcFrom p crc bs := by
  induction bs with
  | nil => exact Function.injective_id
  | cons b bs ih =>
    intro c d hcd
    exact BitVec.xor_left_inj b |>.1 (crcByte_injective h (ih hcd))

/-! ## The statements -/

/-- Settles O2: a round is linear (`crcRound_xor`), hence so are the eight rounds and the run. -/
theorem checksumIsLinear : Obligations.ChecksumIsLinear :=
  fun p => ⟨crcRound_zero p, crcByte_zero p, crcRound_xor p, crcByte_xor p, checksum_seed_zeros p,
    checksum_concat p, fun _ _ => checksum_xor p, crcByte_eq_xorSetBits p, crcByte_0x80 p,
    checksum_append_self p⟩

/-- Settles O3: the bytes before give one running value, and each step after it is injective. -/
theorem checksumDetectsAChangedByte : Obligations.ChecksumDetectsAChangedByte := by
  intro p h before after b c hbc heq
  rw [checksum_append, checksum_append] at heq
  have hbyte : crcByte p (checksum p before ^^^ b) = crcByte p (checksum p before ^^^ c) :=
    crcFrom_injective h after heq
  exact hbc ((BitVec.xor_right_inj _).1 (crcByte_injective h hbyte))

/-- Settles O1: CHECKSUM's arm writes `ret` alone, and its value folds byte by byte
(`checksum_concat`). -/
theorem checksumFoldsEveryByte : Obligations.ChecksumFoldsEveryByte := by
  obtain ⟨-, -, -, -, hseed⟩ := Config.params_hasDocLiterals
  refine ⟨hseed, fun s => ⟨fun _ _ => rfl, fun _ => ⟨_, rfl, rfl, s.returns_frame _⟩,
    checksum_nil _, fun bs b => ?_, crcRound_eq _⟩⟩
  rw [checksum_concat, crcByte_eq_iterate]

end Sys2Proof.Machine
end

section
/-! PROOFS. The Frame Buffer Pair's statements (41_buffer_pair R140 to R148). The five operations
are equations; what a run without SWAP keeps (RDY cleared, a completed frame, a held view) is one
step lemma each, carried over the run by `NoSwap.run_keeps`; and a good frame is captured line by
line. -/

namespace Sys2Proof.Machine

/-! ## The operations one by one -/

/-- TAKE_READY when a frame is ready (R142). -/
theorem exec_takeReady_of_ready {s : State} (h : s.handoff.rdy = true) :
    exec .takeReady s = .next (s.takeView.returns (.ready (!s.handoff.sel))) := by
  rw [show exec .takeReady s = execTakeReady s from rfl, execTakeReady, takeReady_ready h]

/-- TAKE_READY when none is (R142). -/
theorem exec_takeReady_of_notReady {s : State} (h : s.handoff.rdy = false) :
    exec .takeReady s = .next (s.returns .notReady) := by
  rw [show exec .takeReady s = execTakeReady s from rfl, execTakeReady, takeReady_notReady h]

/-- SWAP, in every state (R141). -/
theorem exec_swap (s : State) : exec .swap s = .next (s.swapBuffers.returns .none) := rfl

/-- VIEW_READ answers what is read through the view (R143). -/
theorem exec_viewRead_of_ok {off n : U32} {draw : Option (List Byte)} {s : State} {bs : List Byte}
    (h : viewBytes s off.toNat n.toNat draw = .ok bs) :
    exec (.viewRead off n draw) s = .next (s.returns (.bytes bs)) := by
  rw [show exec (.viewRead off n draw) s = execViewRead off n draw s from rfl, execViewRead, h]

/-- VIEW_READ is refused for the reason the read is (R143). -/
theorem exec_viewRead_of_error {off n : U32} {draw : Option (List Byte)} {s : State} {r : Refusal}
    (h : viewBytes s off.toNat n.toNat draw = .error r) :
    exec (.viewRead off n draw) s = .refused r := by
  rw [show exec (.viewRead off n draw) s = execViewRead off n draw s from rfl, execViewRead, h]

/-- After TAKE_READY no frame is ready, whatever it found (R142). -/
theorem rdy_of_takeReady {s t : State} (h : exec .takeReady s = .next t) :
    t.handoff.rdy = false := by
  cases hr : s.handoff.rdy
  · rw [exec_takeReady_of_notReady hr] at h
    cases h; exact hr
  · rw [exec_takeReady_of_ready hr] at h
    cases h; rfl

/-- Byte `k` of a read, in the spelling of the statements. -/
theorem State.readBytes_getD (s : State) (sp : Space) (a : Nat) {n k : Nat} (h : k < n) :
    (s.readBytes sp a n).getD k 0 = s.byteAt sp (a + k) := by
  rw [List.getD_eq_getElem _ _ (by simpa using h), State.readBytes_getElem]

/-! ## Runs of operations -/

theorem execAll_cons_next {i : Instr} {is : List Instr} {s u : State} :
    execAll (i :: is) s = .next u ↔ ∃ t, exec i s = .next t ∧ execAll is t = .next u := by
  rw [execAll]
  cases exec i s <;> simp

/-- A run goes on from where its first part ends. -/
theorem execAll_append {is : List Instr} (js : List Instr) {s t : State}
    (h : execAll is s = .next t) : execAll (is ++ js) s = execAll js t := by
  induction is generalizing s with
  | nil => cases h; rfl
  | cons i is ih =>
    obtain ⟨s1, hi, his⟩ := execAll_cons_next.1 h
    rw [List.cons_append, execAll, hi]
    exact ih his

/-- What every operation without SWAP keeps, among those `ok` admits, a run of them keeps. -/
theorem NoSwap.run_keeps {P : State → Prop} {ok : Instr → Bool}
    (hstep : ∀ {i s t}, swapsIn s i = false → ok i = true → exec i s = .next t → P s → P t)
    {is : List Instr} {s u : State} (hn : NoSwap is s) (hok : is.all ok = true)
    (h : execAll is s = .next u) (hs : P s) : P u := by
  induction is generalizing s with
  | nil => cases h; exact hs
  | cons i is ih =>
    obtain ⟨hi, hrest⟩ := hn
    obtain ⟨hoki, hokis⟩ := by simpa only [List.all_cons, Bool.and_eq_true] using hok
    obtain ⟨s1, he, his⟩ := execAll_cons_next.1 h
    exact ih (hrest s1 he) hokis his (hstep hi hoki he hs)

/-! ## What an operation without SWAP keeps -/

/-- RDY is set by SWAP only (10_state R26 (iii), R149). -/
theorem exec_keeps_notReady {i : Instr} {s t : State} (hs : swapsIn s i = false)
    (h : exec i s = .next t) (hr : s.handoff.rdy = false) : t.handoff.rdy = false := by
  cases i
  case takeReady => exact rdy_of_takeReady h
  case mlImgTake => obtain ⟨-, ⟨-, rfl⟩ | ⟨-, rfl⟩⟩ := execMlImgTake_next h; exacts [rfl, hr]
  case reset => cases h; rfl
  all_goals
    have hkeep := exec_frame h .rdy fun hmem =>
      Bool.eq_false_iff.1 hs (swapsIn_of_rdy_mem hmem nofun nofun nofun)
    exact hkeep.trans hr

/-- Nothing but RESET writes the buffer that is not the write target (10_state R26 (ii), 20_memory
R71). -/
theorem completed_notMem_writesOf {i : Instr} (s : State) (hr : i ≠ .reset) :
    .space (.fb (!s.handoff.sel)) ∉ writesOf s i := by
  cases i
  case frameDone => rw [writesOf]; split <;> simp
  case reset => exact absurd rfl hr
  all_goals simp [writesOf]

/-- The frame completed in `s` is whole in `t`: the write target is the same, and the other buffer
reads as before. -/
structure State.KeepsCompleted (s t : State) : Prop where
  par : t.par = s.par
  sel : t.handoff.sel = s.handoff.sel
  bytes : ∀ a, t.byteAt (.fb (!s.handoff.sel)) a = s.byteAt (.fb (!s.handoff.sel)) a

theorem State.KeepsCompleted.refl (s : State) : s.KeepsCompleted s := ⟨rfl, rfl, fun _ => rfl⟩

theorem State.KeepsCompleted.trans {s t u : State} (h1 : s.KeepsCompleted t)
    (h2 : t.KeepsCompleted u) : s.KeepsCompleted u where
  par := h2.par.trans h1.par
  sel := h2.sel.trans h1.sel
  bytes a := by
    have hb := h2.bytes a
    rw [h1.sel] at hb
    exact hb.trans (h1.bytes a)

theorem State.KeepsCompleted.readBytes {s t : State} (h : s.KeepsCompleted t) (a n : Nat) :
    t.readBytes (.fb (!s.handoff.sel)) a n = s.readBytes (.fb (!s.handoff.sel)) a n :=
  State.readBytes_congr s t _ _ a a n fun _ _ => h.bytes _

theorem exec_keepsCompleted {i : Instr} {s t : State} (hs : swapsIn s i = false)
    (hr : i ≠ .reset) (h : exec i s = .next t) : s.KeepsCompleted t where
  par := exec_par h
  sel := exec_frame h .sel fun hmem => Bool.eq_false_iff.1 hs (swapsIn_of_sel_mem hmem hr)
  bytes := exec_frame h (.space _) (completed_notMem_writesOf s hr)

/-- The operations that leave a ready frame waiting leave RDY (R142, R149). -/
theorem exec_rdy_of_leavesReady {i : Instr} {s t : State} (hs : swapsIn s i = false)
    (hl : leavesReady i = true) (h : exec i s = .next t) : t.handoff.rdy = s.handoff.rdy :=
  exec_frame h .rdy fun hmem => Bool.eq_false_iff.1 hs
    (swapsIn_of_rdy_mem hmem (by rintro rfl; cases hl) (by rintro rfl; cases hl)
      (by rintro rfl; cases hl))

/-- With no frame ready, the operations that leave a held view leave it and its mark as they are
(R141, R142, R144). -/
theorem exec_view_of_leavesView {i : Instr} {s t : State} (hs : swapsIn s i = false)
    (hl : leavesView i = true) (hr : s.handoff.rdy = false) (h : exec i s = .next t) :
    t.view = s.view ∧ t.viewStale = s.viewStale := by
  cases i
  case takeReady => rw [exec_takeReady_of_notReady hr] at h; cases h; exact ⟨rfl, rfl⟩
  case mlImgTake =>
    obtain ⟨-, ⟨hready, -⟩ | ⟨-, rfl⟩⟩ := execMlImgTake_next h
    · rw [hr] at hready; cases hready
    · exact ⟨rfl, rfl⟩
  case swap => cases hs
  case viewRelease | mlImgBuild | reset => cases hl
  all_goals
    exact ⟨exec_frame h .view (by simp [writesOf, hs]),
      exec_frame h .viewStale (by simp [writesOf, hs])⟩

/-! ## What a run without SWAP keeps -/

theorem NoSwap.notReady {is : List Instr} {s u : State} (hn : NoSwap is s)
    (h : execAll is s = .next u) (hr : s.handoff.rdy = false) : u.handoff.rdy = false :=
  hn.run_keeps (P := fun t => t.handoff.rdy = false) (ok := fun _ => true)
    (fun hs _ => exec_keeps_notReady hs) (by simp) h hr

/-- A ready frame waits: HANDOFF and the frame's bytes stay (R148). -/
structure State.KeepsReady (s t : State) : Prop extends s.KeepsCompleted t where
  rdy : t.handoff.rdy = s.handoff.rdy

theorem State.KeepsReady.handoff {s t : State} (h : s.KeepsReady t) : t.handoff = s.handoff :=
  congrArg₂ Handoff.mk h.sel h.rdy

theorem NoSwap.keepsReady {is : List Instr} {s u : State} (hn : NoSwap is s)
    (hl : is.all leavesReady = true) (h : execAll is s = .next u) : s.KeepsReady u := by
  refine hn.run_keeps (P := s.KeepsReady) ?_ hl h ⟨.refl s, rfl⟩
  intro i t t' hs hok he hkeep
  have hframe : t.KeepsCompleted t' := exec_keepsCompleted hs (by rintro rfl; cases hok) he
  exact ⟨hkeep.toKeepsCompleted.trans hframe, (exec_rdy_of_leavesReady hs hok he).trans hkeep.rdy⟩

/-- A held view goes on naming its frame: no other frame is ready to replace it, and the frame's
bytes stay (R148). -/
structure State.KeepsView (s t : State) : Prop extends s.KeepsCompleted t where
  notReady : t.handoff.rdy = false
  view : t.view = s.view
  viewStale : t.viewStale = s.viewStale

theorem NoSwap.keepsView {is : List Instr} {s u : State} (hn : NoSwap is s)
    (hl : is.all leavesView = true) (h : execAll is s = .next u) (hr : s.handoff.rdy = false) :
    s.KeepsView u := by
  refine hn.run_keeps (P := s.KeepsView) ?_ hl h ⟨.refl s, hr, rfl, rfl⟩
  intro i t t' hs hok he hkeep
  have hframe : t.KeepsCompleted t' := exec_keepsCompleted hs (by rintro rfl; cases hok) he
  obtain ⟨hview, hstale⟩ := exec_view_of_leavesView hs hok hkeep.notReady he
  exact ⟨hkeep.toKeepsCompleted.trans hframe, exec_keeps_notReady hs he hkeep.notReady,
    hview.trans hkeep.view, hstale.trans hkeep.viewStale⟩

/-! ## Capturing a frame line by line (20_memory R63, 42_capture_fsm R161, R162) -/

@[simp] theorem State.returns_readBytes (s : State) (r : Ret) (sp : Space) (a n : Nat) :
    (s.returns r).readBytes sp a n = s.readBytes sp a n :=
  State.readBytes_congr s _ sp sp a a n fun _ _ => rfl

/-- CAP_WRITE inside the line buffer (R161). -/
theorem execCapWrite_of_le {slot : Bool} {off : U32} {data : List Byte} {s : State}
    (h : off.toNat + data.length ≤ s.par.raw.lineBytes) :
    execCapWrite slot off data s =
      .next ((s.writeBytes (.lb slot) off.toNat data).returns .none) := by
  rw [execCapWrite, memWrite_of_le (sp := .lb slot) h]

/-- LINE_DONE of a line inside the frame (R162). -/
theorem execLineDone_of_lt {s : State} (h : s.lineIdx.toNat < s.par.raw.imgLines) :
    execLineDone s =
      .next ((s.writeBytes (.fb s.handoff.sel) (lineOffset s)
        (s.readBytes (.lb s.lbSlot) 0 s.par.raw.lineBytes)).countLine.returns .none) := by
  rw [execLineDone_eq, if_pos (show s.lineIdx.toNat < s.expectedLines from h)]

/-- The state after one LINE of the frame (30_encoding R104): the bytes are in the line buffer and at
the line's place in the write target, and the line is counted. -/
def State.storeLine (s : State) (line : List Byte) : State :=
  ((((s.writeBytes (.lb s.lbSlot) 0 line).returns .none).writeBytes (.fb s.handoff.sel)
    (lineOffset s) line).countLine).returns .none

theorem execAll_lineOps {s : State} {line : List Byte}
    (hlt : s.lineIdx.toNat < s.par.raw.imgLines) (hl : line.length = s.par.raw.lineBytes) :
    execAll (lineOps s.lbSlot line) s = .next (s.storeLine line) := by
  have hcap : exec (.capWrite s.lbSlot 0 line) s =
      .next ((s.writeBytes (.lb s.lbSlot) 0 line).returns .none) :=
    execCapWrite_of_le (by simp [hl])
  have hread : ((s.writeBytes (.lb s.lbSlot) 0 line).returns .none).readBytes (.lb s.lbSlot) 0
      s.par.raw.lineBytes = line := by
    rw [State.returns_readBytes, ← hl, State.readBytes_writeBytes]
  have hdone := execLineDone_of_lt
    (s := (s.writeBytes (.lb s.lbSlot) 0 line).returns .none) hlt
  simp only [State.returns_lbSlot, State.writeBytes_lbSlot, State.returns_par,
    State.writeBytes_par, hread] at hdone
  exact execAll_cons_next.2 ⟨_, hcap, execAll_cons_next.2 ⟨_, hdone, rfl⟩⟩

/-- From `s` to `t`, `count` lines of the bytes `bs` have been captured: they stand in the write
target from the line counter's place on, and the lines before that place are as they were (R63). -/
structure State.Captured (s t : State) (count : Nat) (bs : List Byte) : Prop where
  par : t.par = s.par
  handoff : t.handoff = s.handoff
  lineIdx : t.lineIdx.toNat = s.lineIdx.toNat + count
  bytes : t.readBytes (.fb s.handoff.sel) (lineOffset s) bs.length = bs
  before : ∀ b, b < lineOffset s →
    t.byteAt (.fb s.handoff.sel) b = s.byteAt (.fb s.handoff.sel) b

theorem State.Captured.refl (s : State) : s.Captured s 0 [] :=
  ⟨rfl, rfl, rfl, rfl, fun _ _ => rfl⟩

theorem State.Captured.lineOffset_eq {s t : State} {count : Nat} {bs : List Byte}
    (h : s.Captured t count bs) :
    lineOffset t = lineOffset s + count * s.par.raw.lineBytes := by
  rw [lineOffset, lineOffset, h.par, h.lineIdx, Nat.add_mul]

/-- Lines captured after others stand behind them. -/
theorem State.Captured.trans {s t u : State} {m n : Nat} {xs ys : List Byte}
    (h1 : s.Captured t m xs) (h2 : t.Captured u n ys)
    (hl : xs.length = m * s.par.raw.lineBytes) : s.Captured u (m + n) (xs ++ ys) := by
  obtain ⟨hpar, hhandoff, hidx, hys, hbefore⟩ := h2
  rw [h1.handoff, h1.lineOffset_eq, ← hl] at hys hbefore
  refine ⟨hpar.trans h1.par, hhandoff.trans h1.handoff, by rw [hidx, h1.lineIdx, Nat.add_assoc],
    ?_, fun b hb => (hbefore b (by omega)).trans (h1.before b hb)⟩
  have hxs : u.readBytes (.fb s.handoff.sel) (lineOffset s) xs.length = xs :=
    (State.readBytes_congr t u _ _ _ _ _ fun i hi => hbefore _ (by omega)).trans h1.bytes
  rw [List.length_append, State.readBytes_append, hxs, hys]

theorem State.storeLine_captured {s : State} (line : List Byte)
    (hlt : s.lineIdx.toNat < s.par.raw.imgLines) : s.Captured (s.storeLine line) 1 line where
  par := rfl
  handoff := rfl
  lineIdx := by
    have hmax := s.par.lines_le
    have hcount := sat16Inc_toNat s.lineIdx
    simp only [State.storeLine, State.returns_lineIdx, State.countLine_lineIdx,
      State.writeBytes_lineIdx]
    omega
  bytes := by
    have hwritten := State.readBytes_writeBytes ((s.writeBytes (.lb s.lbSlot) 0 line).returns .none)
      (.fb s.handoff.sel) (lineOffset s) line
    refine Eq.trans ?_ hwritten
    exact State.readBytes_congr _ _ _ _ _ _ _ fun _ _ => rfl
  before b hb := by
    simp only [State.storeLine, State.returns_byteAt, State.countLine_byteAt]
    rw [State.byteAt_writeBytes _ (.fb s.handoff.sel), if_neg (by omega), State.returns_byteAt,
      State.byteAt_writeBytes_ne _ _ _ _ _ _ (by simp)]

/-- As many LINEs as still fit the frame capture their bytes (R162). -/
theorem execAll_linesOps (count : Nat) {s : State} {data : List Byte}
    (hfit : s.lineIdx.toNat + count ≤ s.par.raw.imgLines)
    (hl : data.length = count * s.par.raw.lineBytes) :
    ∃ t, execAll (linesOps count s.lbSlot s.par.raw.lineBytes data) s = .next t ∧
      s.Captured t count data := by
  induction count generalizing s data with
  | zero =>
    obtain rfl : data = [] := List.length_eq_zero_iff.1 (by omega)
    exact ⟨s, rfl, .refl s⟩
  | succ count ih =>
    rw [Nat.succ_mul] at hl
    have hlt : s.lineIdx.toNat < s.par.raw.imgLines := by omega
    have htake : (data.take s.par.raw.lineBytes).length = s.par.raw.lineBytes := by
      rw [List.length_take]; omega
    have hline := State.storeLine_captured (data.take s.par.raw.lineBytes) hlt
    obtain ⟨t, hrun, hrest⟩ := ih (s := s.storeLine (data.take s.par.raw.lineBytes))
      (data := data.drop s.par.raw.lineBytes) (by rw [hline.lineIdx, hline.par]; omega)
      (by rw [List.length_drop, hline.par]; omega)
    refine ⟨t, (execAll_append _ (execAll_lineOps hlt htake)).trans hrun, ?_⟩
    have hall := hline.trans hrest (by omega)
    rwa [List.take_append_drop, Nat.add_comm] at hall

/-- GOODFRAME from an idle capture swaps, and leaves its bytes in the buffer that was the write
target (42_capture_fsm R164). -/
theorem execAll_goodFrameOps {s : State} {data : List Byte} (h0 : s.lineIdx = 0)
    (hl : data.length = s.par.raw.imgFrameBytes) :
    ∃ t, execAll (goodFrameOps s data) s = .next t ∧ t.par = s.par ∧
      t.handoff = { sel := !s.handoff.sel, rdy := true } ∧
      t.readBytes (.fb s.handoff.sel) 0 s.par.raw.imgFrameBytes = data := by
  have hidx : s.lineIdx.toNat = 0 := by rw [h0]; rfl
  obtain ⟨t, hrun, hcap⟩ := execAll_linesOps s.par.raw.imgLines (by omega) hl
  have hdone : exec .frameDone t = .next (t.swapBuffers.endFrame.returns .none) :=
    execFrameDone_complete (by rw [hcap.lineIdx, hcap.par, hidx, Nat.zero_add])
  refine ⟨_, (execAll_append _ hrun).trans (execAll_cons_next.2 ⟨_, hdone, rfl⟩), hcap.par, ?_, ?_⟩
  · simp [hcap.handoff]
  · have hbytes := hcap.bytes
    rw [lineOffset, hidx, Nat.zero_mul, hl] at hbytes
    exact (State.readBytes_congr t (t.swapBuffers.endFrame.returns .none) _ _ 0 0 _
      fun _ _ => rfl).trans hbytes

/-- VIEW_READ of the whole frame through a fresh view (R143). -/
theorem exec_viewRead_frame {s : State} {v : Bool} (hv : s.view = some v)
    (hs : s.viewStale = false) :
    exec (.viewRead 0 (BitVec.ofNat 32 s.par.raw.imgFrameBytes) none) s =
      .next (s.returns (.bytes (s.readBytes (.fb v) 0 s.par.raw.imgFrameBytes))) := by
  have hn : (BitVec.ofNat 32 s.par.raw.imgFrameBytes).toNat = s.par.raw.imgFrameBytes := by
    have hle := s.par.img_le
    have hlt := s.par.max_lt
    rw [BitVec.toNat_ofNat]
    omega
  refine exec_viewRead_of_ok ?_
  rw [hn]
  exact viewBytes_fresh hv hs (by simp)

/-! ## The statements -/

/-- Settles O8: neither TAKE_READY nor reset leaves a frame ready, and only SWAP makes one ready
(`NoSwap.notReady`). -/
theorem secondTakeReadyFindsNothing : Obligations.SecondTakeReadyFindsNothing := by
  intro is s t u hstart hn h
  have hr : t.handoff.rdy = false := by
    rcases hstart with htake | rfl
    · exact rdy_of_takeReady htake
    · rfl
  exact ⟨_, exec_takeReady_of_notReady (hn.notReady h hr), rfl, rfl⟩

/-- Settles O17: the captured frame is the completed one after the swap (`execAll_goodFrameOps`),
waits as it is (`NoSwap.keepsReady`), and is what the view names until it is released
(`NoSwap.keepsView`). -/
theorem aCapturedFrameIsReadBackWhole : Obligations.ACapturedFrameIsReadBackWhole := by
  intro s data h0 hl
  obtain ⟨t, hframe, hpar, hhandoff, hdata⟩ := execAll_goodFrameOps h0 hl
  refine ⟨t, hframe, hhandoff, fun is u hn hready hrun => ?_⟩
  have hwait := hn.keepsReady hready hrun
  have hother : (!t.handoff.sel) = s.handoff.sel := by simp [hhandoff]
  have hwaiting := hwait.readBytes 0 s.par.raw.imgFrameBytes
  rw [hother, hdata] at hwaiting
  have htake := exec_takeReady_of_ready (s := u) (by rw [hwait.handoff, hhandoff])
  rw [hwait.sel, hother] at htake
  have htaken := exec_keepsCompleted (i := .takeReady) rfl nofun htake
  refine ⟨hwait.handoff, hwaiting, _, htake, rfl, fun js w hn' hview hrun' => ?_⟩
  have hheld := hn'.keepsView hview hrun' rfl
  have hkept : t.KeepsCompleted w :=
    (hwait.toKeepsCompleted.trans htaken).trans hheld.toKeepsCompleted
  have hviewed : w.view = some s.handoff.sel := by
    rw [hheld.view, State.returns_view, State.takeView_view, hwait.sel, hother]
  have hread := hkept.readBytes 0 s.par.raw.imgFrameBytes
  rw [hother, hdata] at hread
  have hexec := exec_viewRead_frame hviewed hheld.viewStale
  rw [hkept.par, hpar, hread] at hexec
  exact ⟨_, hexec, rfl⟩

/-- Settles O4: WRITE_HANDLE's arm returns SEL and writes `ret` alone. -/
theorem writeHandleReturnsSel : Obligations.WriteHandleReturnsSel :=
  ⟨fun _ => rfl, fun s => ⟨_, rfl, rfl, s.returns_frame _⟩⟩

/-- Settles O5: SWAP is `swapBuffers`, whose frame holds no storage space. -/
theorem swapFlipsTheSelector : Obligations.SwapFlipsTheSelector :=
  ⟨fun _ => rfl, fun s => ⟨_, exec_swap s, rfl, rfl, rfl, exec_frame (i := .swap) rfl⟩⟩

/-- Settles O6: the two cases of TAKE_READY by RDY. -/
theorem takeReadyTakesTheCompletedBuffer : Obligations.TakeReadyTakesTheCompletedBuffer := by
  refine ⟨fun _ => rfl, fun s => ?_⟩
  cases hr : s.handoff.rdy
  · have htake := exec_takeReady_of_notReady hr
    exact ⟨_, htake, ⟨rfl, rfl, rfl, rfl⟩, exec_frame htake⟩
  · have htake := exec_takeReady_of_ready hr
    exact ⟨_, htake, ⟨rfl, rfl, rfl, rfl⟩, exec_frame htake⟩

/-- Settles O7: TAKE_READY first meets RDY as it is, TAKE_READY second meets the RDY that SWAP set. -/
theorem swapAndTakeReadyInEitherOrder : Obligations.SwapAndTakeReadyInEitherOrder := by
  intro s hv
  refine ⟨?takeFirst, ?swapFirst⟩
  case takeFirst =>
    cases hr : s.handoff.rdy
    · refine ⟨_, _, exec_takeReady_of_notReady hr, exec_swap _, rfl, ?_⟩
      simp [hv]
    · refine ⟨_, _, exec_takeReady_of_ready hr, exec_swap _, rfl, ?_⟩
      simp
  case swapFirst =>
    refine ⟨_, _, exec_swap s, exec_takeReady_of_ready rfl, ?_⟩
    simp

/-- Settles O10: VIEW_READ answers what `viewBytes` reads, which the view's freshness decides. -/
theorem viewReadReturnsTheViewsBytes : Obligations.ViewReadReturnsTheViewsBytes := by
  refine ⟨fun _ _ _ _ => rfl, fun off n s => ⟨?noView, fun v hv hle => ⟨?fresh, ?stale⟩⟩⟩
  case noView => exact fun hv draw => exec_viewRead_of_error (viewBytes_noView hv _ _ draw)
  case fresh =>
    intro hs
    exact ⟨_, _, exec_viewRead_of_ok (viewBytes_fresh hv hs hle), rfl, by simp,
      fun k hk => s.readBytes_getD _ _ hk, s.returns_frame _⟩
  case stale =>
    intro hs d hd
    exact ⟨_, exec_viewRead_of_ok (viewBytes_stale hv hs hle hd), rfl, s.returns_frame _⟩

/-- Settles O12: VIEW_RELEASE is `releaseView`, which writes VIEW and its mark alone. -/
theorem viewReleaseGivesUpTheView : Obligations.ViewReleaseGivesUpTheView :=
  ⟨fun _ => rfl, fun s => ⟨_, rfl, rfl, rfl, rfl, exec_frame (i := .viewRelease) (s := s) rfl⟩⟩

end Sys2Proof.Machine
end

section
/-! PROOFS. The Capture State Machine's statements (42_capture_fsm R161 to R168). LINE_DONE
completes in every state, and each of its rules is one lemma about the state it completes in; a run
of LINE_DONEs only counts, up to saturation, so the count FRAME_DONE compares tells the expected
number of them from every other. -/

namespace Sys2Proof.Machine

/-! ## CAP_WRITE (R161) -/

/-- Byte `k` of what was just written, in the spelling of the statements. -/
theorem State.byteAt_writeBytes_add (s : State) (sp : Space) (a : Nat) {bs : List Byte} {k : Nat}
    (h : k < bs.length) : (s.writeBytes sp a bs).byteAt sp (a + k) = bs.getD k 0 := by
  rw [State.byteAt_writeBytes, if_pos ⟨rfl, by omega, by omega⟩, Nat.add_sub_cancel_left]

theorem memWrite_of_lt {s : State} {sp : Space} {off : Nat} {v : List Byte}
    (h : s.sizeOf sp < off + v.length) : memWrite s sp off v = .error .outOfRange := if_pos h

/-- CAP_WRITE past the line buffer (20_memory R61). -/
theorem execCapWrite_of_lt {slot : Bool} {off : U32} {data : List Byte} {s : State}
    (h : s.par.raw.lineBytes < off.toNat + data.length) :
    execCapWrite slot off data s = .refused .outOfRange := by
  rw [execCapWrite, memWrite_of_lt (sp := .lb slot) h]

/-! ## LINE_DONE (R162, R163) -/

theorem exec_lineDone_completes (s : State) : ∃ t, exec .lineDone s = .next t :=
  ⟨_, execLineDone_eq s⟩

/-- LINE_DONE of a line past the expected count copies nothing (R163). -/
theorem execLineDone_of_ge {s : State} (h : s.par.raw.imgLines ≤ s.lineIdx.toNat) :
    execLineDone s = .next (s.countLine.returns .none) := by
  rw [execLineDone_eq, if_neg (show ¬ s.lineIdx.toNat < s.expectedLines from Nat.not_lt.2 h)]

/-- Copied or not, the line is counted (R162, R163). -/
theorem exec_lineDone_counts {s t : State} (h : exec .lineDone s = .next t) :
    t.lineIdx.toNat = min (s.lineIdx.toNat + 1) 65535 ∧ t.lbSlot = !s.lbSlot ∧ t.ret = .none := by
  rw [← sat16Inc_toNat]
  rcases lt_or_ge s.lineIdx.toNat s.par.raw.imgLines with hlt | hge
  · cases (execLineDone_of_lt hlt).symm.trans h
    exact ⟨rfl, rfl, rfl⟩
  · cases (execLineDone_of_ge hge).symm.trans h
    exact ⟨rfl, rfl, rfl⟩

/-- A line inside the frame stands at its place in the write target afterwards, and the rest of that
buffer is as before (R162, 20_memory R63). -/
theorem exec_lineDone_copies {s t : State} (h : exec .lineDone s = .next t)
    (hlt : s.lineIdx.toNat < s.par.raw.imgLines) :
    (∀ k, k < s.par.raw.lineBytes →
      t.byteAt (.fb s.handoff.sel) (lineOffset s + k) = s.byteAt (.lb s.lbSlot) k) ∧
    FrameBytes s t (.fb s.handoff.sel) (lineOffset s) s.par.raw.lineBytes := by
  cases (execLineDone_of_lt hlt).symm.trans h
  constructor
  · intro k hk
    rw [State.returns_byteAt, State.countLine_byteAt,
      State.byteAt_writeBytes_add _ _ _ (by simpa using hk), State.readBytes_getD _ _ _ hk,
      Nat.zero_add]
  · have hrest := frameBytes_writeBytes s (.fb s.handoff.sel) (lineOffset s)
      (s.readBytes (.lb s.lbSlot) 0 s.par.raw.lineBytes)
    rw [State.readBytes_length] at hrest
    exact hrest

/-- A line past the expected count changes no byte (R163). -/
theorem exec_lineDone_byteAt_of_ge {s t : State} (h : exec .lineDone s = .next t)
    (hge : s.par.raw.imgLines ≤ s.lineIdx.toNat) (sp : Space) (a : Nat) :
    t.byteAt sp a = s.byteAt sp a := by
  cases (execLineDone_of_ge hge).symm.trans h
  rfl

/-! ## A run of LINE_DONEs -/

/-- From `s` to `t`, `k` lines have been counted, the counter saturating, and what FRAME_DONE
decides by and writes is otherwise as it was. -/
structure State.CountedLines (s t : State) (k : Nat) : Prop where
  lineIdx : t.lineIdx.toNat = min (s.lineIdx.toNat + k) 65535
  par : t.par = s.par
  handoff : t.handoff = s.handoff
  diaglog : t.diaglog = s.diaglog

theorem State.CountedLines.refl (s : State) : s.CountedLines s 0 where
  lineIdx := by have := s.lineIdx.isLt; omega
  par := rfl
  handoff := rfl
  diaglog := rfl

theorem State.CountedLines.trans {s t u : State} {m n : Nat} (h1 : s.CountedLines t m)
    (h2 : t.CountedLines u n) : s.CountedLines u (m + n) where
  lineIdx := by rw [h2.lineIdx, h1.lineIdx]; omega
  par := h2.par.trans h1.par
  handoff := h2.handoff.trans h1.handoff
  diaglog := h2.diaglog.trans h1.diaglog

theorem exec_lineDone_countedLines {s t : State} (h : exec .lineDone s = .next t) :
    s.CountedLines t 1 where
  lineIdx := (exec_lineDone_counts h).1
  par := exec_par h
  handoff := congrArg₂ Handoff.mk (exec_frame h .sel (by simp [writesOf]))
    (exec_frame h .rdy (by simp [writesOf]))
  diaglog := exec_frame h .diaglog (by simp [writesOf])

theorem execAll_lineDones (k : Nat) (s : State) :
    ∃ t, execAll (List.replicate k .lineDone) s = .next t ∧ s.CountedLines t k := by
  induction k generalizing s with
  | zero => exact ⟨s, rfl, .refl s⟩
  | succ k ih =>
    obtain ⟨s1, hline⟩ := exec_lineDone_completes s
    obtain ⟨t, hrun, hrest⟩ := ih s1
    refine ⟨t, execAll_cons_next.2 ⟨s1, hline, hrun⟩, ?_⟩
    rw [Nat.add_comm]
    exact (exec_lineDone_countedLines hline).trans hrest

/-- The saturated count is the expected one exactly when the count is: IMG_LINES is below the
saturation point (00_scope R8). -/
theorem min_count_eq_imgLines_iff (p : ValidParams) (k : Nat) :
    min k 65535 = p.raw.imgLines ↔ k = p.raw.imgLines := by
  have hmax := p.lines_le
  omega

/-! ## The statements -/

/-- Settles O14: LINE_DONE counts the line always, and copies it below the expected count only. -/
theorem lineDoneRelocatesTheLine : Obligations.LineDoneRelocatesTheLine := by
  refine ⟨fun _ => rfl, fun s => ?_⟩
  obtain ⟨t, h⟩ := exec_lineDone_completes s
  obtain ⟨hidx, hslot, hret⟩ := exec_lineDone_counts h
  refine ⟨t, h, ?bytes, rfl, hidx, hslot, hret, exec_frame h⟩
  split
  case isTrue hlt => exact exec_lineDone_copies h hlt
  case isFalse hge => exact exec_lineDone_byteAt_of_ge h (Nat.le_of_not_lt hge) _

/-- Settles O13: CAP_WRITE is MemWrite into the line buffer, inside it or refused. -/
theorem captureWriteStoresItsBytes : Obligations.CaptureWriteStoresItsBytes := by
  refine fun slot off data s => ⟨fun hle => ?inside, execCapWrite_of_lt⟩
  have hcap : exec (.capWrite slot off data) s = _ := execCapWrite_of_le hle
  exact ⟨_, hcap, fun _ hk => s.byteAt_writeBytes_add _ _ hk, frameBytes_writeBytes _ _ _ _, rfl,
    exec_frame hcap⟩

/-- Settles O15: the two verdicts of FRAME_DONE, a complete frame and a malformed one. -/
theorem frameDoneSwapsOnlyACompleteFrame : Obligations.FrameDoneSwapsOnlyACompleteFrame := by
  refine ⟨fun _ => rfl, fun s => ?_⟩
  have hframe {t : State} (h : exec .frameDone s = .next t) :
      Frame s t [.lineIdx, .lbSlot, .sel, .rdy, .viewStale, .diaglog, .ret] :=
    (exec_frame h).mono (by rw [writesOf]; split <;> simp)
  by_cases hl : s.lineIdx.toNat = s.par.raw.imgLines
  · have hdone : exec .frameDone s = _ := execFrameDone_complete hl
    refine ⟨_, hdone, rfl, rfl, ?_, hframe hdone⟩
    rw [if_pos hl]
    exact ⟨rfl, rfl, rfl, rfl⟩
  · have hdone : exec .frameDone s = _ := execFrameDone_malformed hl
    refine ⟨_, hdone, rfl, rfl, ?_, hframe hdone⟩
    rw [if_neg hl]
    exact ⟨rfl, rfl, rfl, rfl⟩

/-- Settles O16: the LINE_DONEs leave the saturated count (`execAll_lineDones`), by which FRAME_DONE
then decides (O15). -/
theorem onlyTheExpectedLineCountSwaps : Obligations.OnlyTheExpectedLineCountSwaps := by
  intro s k h0
  obtain ⟨t, hrun, hcount⟩ := execAll_lineDones k s
  have hidx : t.lineIdx.toNat = min k 65535 := by simpa [h0] using hcount.lineIdx
  obtain ⟨u, hdone, hidle, hslot, hverdict, -⟩ := frameDoneSwapsOnlyACompleteFrame.2 t
  have hall := (execAll_append [.frameDone] hrun).trans (execAll_cons_next.2 ⟨u, hdone, rfl⟩)
  refine ⟨u, hall, hidle, hslot, ?_⟩
  simp only [hidx, hcount.par, hcount.handoff, hcount.diaglog,
    min_count_eq_imgLines_iff] at hverdict
  split
  case isTrue hk =>
    rw [if_pos hk] at hverdict
    obtain ⟨hhandoff, -, hlog, -⟩ := hverdict
    exact ⟨hhandoff, hlog⟩
  case isFalse hk =>
    rw [if_neg hk] at hverdict
    obtain ⟨hhandoff, -, hlog, -⟩ := hverdict
    exact ⟨hhandoff, hlog⟩

end Sys2Proof.Machine
end

section
/-! PROOFS. The Radar Acquisition Adapter's statements (43_radar_adapter R180 to R184). Both drains,
the bare one and the main loop's, run the same `drainRadar`, so what it answers is said once, by the
two counts and by the fault byte, and each drain adds only what it does with that answer. -/

namespace Sys2Proof.Machine

/-! ## The latch (R180, R181) -/

/-- RADAR_BURST, in every state (R180). -/
theorem exec_radarBurst (s : State) :
    exec .radarBurst s = .next ((s.setAvail true).returns .none) := rfl

/-- RADAR_POLL, in every state (R181). -/
theorem exec_radarPoll (s : State) : exec .radarPoll s = .next (s.returns (.bit s.avail)) := rfl

/-! ## What a drain answers (R182) -/

/-- With equal counts RB takes the bytes, and the fault byte decides the result. -/
theorem drainRadar_of_eq {s : State} {expected : Nat} {a : RadarDraw}
    (hl : a.data.length = s.par.raw.radarFrameBytes) (he : expected = a.spf.toNat) :
    drainRadar s expected a =
      .ok (if a.fault = 1 then .raised { kind := .hardwareFault, info := .none } else .ok,
        (s.setAvail false).writeBytes .rb 0 a.data) := by
  rw [drainRadar_eq hl, if_pos he]

/-- With different counts only the latch is written, and SizeMismatch names both. -/
theorem drainRadar_of_ne {s : State} {expected : Nat} {a : RadarDraw}
    (hl : a.data.length = s.par.raw.radarFrameBytes) (he : expected ≠ a.spf.toNat) :
    drainRadar s expected a =
      .ok (.raised { kind := .sizeMismatch, info := .sizes expected a.spf.toNat },
        s.setAvail false) := by
  rw [drainRadar_eq hl, if_neg he]

/-- The fault byte is compared with 1 only, so every other byte stands for 0. -/
theorem drainRadar_fault_zero {s : State} {a : RadarDraw}
    (hl : a.data.length = s.par.raw.radarFrameBytes) (hf : a.fault ≠ 1) (expected : Nat) :
    drainRadar s expected { a with fault := 0 } = drainRadar s expected a := by
  have hzero : (0 : Byte) ≠ 1 := by decide
  rw [drainRadar_eq hl, if_neg hf, drainRadar_eq (a := { a with fault := 0 }) hl, if_neg hzero]

theorem drainRadar_ne_hardwareFault {s u : State} {expected : Nat} {a : RadarDraw} {r : Ret}
    (h : drainRadar s expected a = .ok (r, u)) (hf : a.fault ≠ 1) :
    r ≠ .raised { kind := .hardwareFault, info := .none } := by
  have hl := drainRadar_ok h
  by_cases he : expected = a.spf.toNat
  · rw [drainRadar_of_eq hl he, if_neg hf] at h
    cases h; simp
  · rw [drainRadar_of_ne hl he] at h
    cases h; simp

/-! ## What the two drains do with the answer -/

/-- RADAR_DRAIN returns the answer (R182). -/
theorem exec_radarDrain_of {s u : State} {expected : U32} {a : RadarDraw} {r : Ret}
    (h : drainRadar s expected.toNat a = .ok (r, u)) :
    exec (.radarDrain expected a) s = .next (u.returns r) := by
  rw [show exec (.radarDrain expected a) s = execRadarDrain expected a s from rfl, execRadarDrain,
    h]

/-- ML_RAD_DRAIN, in its phase, goes on by the answer (45_stream_controller R227). -/
theorem exec_mlRadDrain_of {s u : State} {a : RadarDraw} {r : Ret} (hp : s.phase = .radDrain)
    (h : drainRadar s s.par.raw.radarSamples a = .ok (r, u)) :
    exec (.mlRadDrain a) s = .next (afterDrain r u) := by
  rw [show exec (.mlRadDrain a) s = execMlRadDrain a s from rfl, execMlRadDrain, inPhase_of _ hp, h,
    outcome]

/-- The main loop raises the drain's own error and no other (45_stream_controller R227). -/
theorem afterDrain_ret_raised {r : Ret} {s : State} {d : Diag} :
    (afterDrain r s).ret = .raised d ↔ r = .raised d := by
  cases r <;> simp [afterDrain]

/-! ## The statements -/

/-- Settles O18: both operations are their equations, with the frames of `exec_frame`. -/
theorem radarBurstSetsAndPollReadsTheLatch : Obligations.RadarBurstSetsAndPollReadsTheLatch :=
  ⟨fun _ => ⟨rfl, rfl⟩, fun s =>
    ⟨⟨_, exec_radarBurst s, rfl, rfl, exec_frame (exec_radarBurst s)⟩,
      ⟨_, exec_radarPoll s, rfl, exec_frame (exec_radarPoll s)⟩⟩⟩

/-- Settles O19: equal and different counts, each by its equation of `drainRadar`. -/
theorem radarDrainClearsTheLatchFirst : Obligations.RadarDrainClearsTheLatchFirst := by
  refine ⟨fun _ _ _ => rfl, fun expected a s hl => ?_⟩
  by_cases he : expected = a.spf
  · have hdrain := exec_radarDrain_of (drainRadar_of_eq hl (congrArg BitVec.toNat he))
    refine ⟨_, hdrain, rfl, ?_, exec_frame hdrain⟩
    rw [if_pos he, State.returns_readBytes, ← hl]
    exact ⟨State.readBytes_writeBytes _ .rb 0 a.data, rfl⟩
  · have hdrain := exec_radarDrain_of (drainRadar_of_ne hl fun h => he (BitVec.eq_of_toNat_eq h))
    refine ⟨_, hdrain, rfl, ?_, exec_frame hdrain⟩
    rw [if_neg he]
    exact ⟨fun _ => rfl, rfl⟩

/-- Settles O20: the drain completes with AVAIL 0 (O19), whatever AVAIL was, so the last poll sees
only a burst that came after it. -/
theorem aBurstBeforeTheDrainIsLost : Obligations.ABurstBeforeTheDrainIsLost := by
  intro a expected s hl
  constructor
  · obtain ⟨t, hdrain, havail, -⟩ := radarDrainClearsTheLatchFirst.2 expected a
      (((s.returns (.bit s.avail)).setAvail true).returns .none) hl
    refine ⟨t.returns (.bit t.avail), ?_, congrArg Ret.bit havail⟩
    exact execAll_cons_next.2 ⟨_, exec_radarPoll s, execAll_cons_next.2 ⟨_, exec_radarBurst _,
      execAll_cons_next.2 ⟨t, hdrain, execAll_cons_next.2 ⟨_, exec_radarPoll t, rfl⟩⟩⟩⟩
  · obtain ⟨t, hdrain, -⟩ := radarDrainClearsTheLatchFirst.2 expected a
      (s.returns (.bit s.avail)) hl
    refine ⟨((t.setAvail true).returns .none).returns (.bit true), ?_, rfl⟩
    exact execAll_cons_next.2 ⟨_, exec_radarPoll s, execAll_cons_next.2 ⟨t, hdrain,
      execAll_cons_next.2 ⟨_, exec_radarBurst t, execAll_cons_next.2 ⟨_, exec_radarPoll _, rfl⟩⟩⟩⟩

/-- Settles O58: the shared drain answers the same for the byte 0 (`drainRadar_fault_zero`) and no
HardwareFault, and both drains go on by its answer. -/
theorem aFaultByteAboveOneStillDrains : Obligations.AFaultByteAboveOneStillDrains := by
  intro a expected s hl hf
  have hanswer (n : Nat) : ∃ r u, drainRadar s n a = .ok (r, u) := ⟨_, _, drainRadar_eq hl⟩
  constructor
  · obtain ⟨r, u, hd⟩ := hanswer expected.toNat
    exact ⟨_, exec_radarDrain_of hd,
      exec_radarDrain_of ((drainRadar_fault_zero hl hf _).trans hd),
      drainRadar_ne_hardwareFault hd hf⟩
  · intro hp
    obtain ⟨r, u, hd⟩ := hanswer s.par.raw.radarSamples
    exact ⟨_, exec_mlRadDrain_of hp hd,
      exec_mlRadDrain_of hp ((drainRadar_fault_zero hl hf _).trans hd),
      fun h => drainRadar_ne_hardwareFault hd hf (afterDrain_ret_raised.1 h)⟩

end Sys2Proof.Machine
end

section
/-! PROOFS. The Envelope Framer's statements (44_envelope_framer R200 to R204). What each byte of an
envelope is, is said once, by its position; that envelopes are injective is then that the sequence
byte and the payload are read back from it. -/

namespace Sys2Proof.Machine

/-! ## The envelope read by position (R91, R203) -/

theorem envelopeBytes_sync0 (p : Params) (seq cks : Byte) (payload : List Byte) :
    (envelopeBytes p seq cks payload).getD 0 0 = p.sync0 := rfl

theorem envelopeBytes_sync1 (p : Params) (seq cks : Byte) (payload : List Byte) :
    (envelopeBytes p seq cks payload).getD 1 0 = p.sync1 := rfl

theorem envelopeBytes_seq (p : Params) (seq cks : Byte) (payload : List Byte) :
    (envelopeBytes p seq cks payload).getD 2 0 = seq := rfl

theorem envelopeBytes_checksum (p : Params) (seq cks : Byte) (payload : List Byte) :
    (envelopeBytes p seq cks payload).getD 7 0 = cks := rfl

theorem envelopeBytes_payload (p : Params) (seq cks : Byte) (payload : List Byte) :
    (envelopeBytes p seq cks payload).drop 8 = payload := rfl

/-- The length field has 32 bits, so it holds the length of a payload below 2^32. -/
theorem envelopeBytes_lengthField {payload : List Byte} (h : payload.length < 4294967296)
    (p : Params) (seq cks : Byte) :
    unle32 ((envelopeBytes p seq cks payload).getD 3 0)
      ((envelopeBytes p seq cks payload).getD 4 0) ((envelopeBytes p seq cks payload).getD 5 0)
      ((envelopeBytes p seq cks payload).getD 6 0) = payload.length :=
  unle32_le32 h

/-! ## A payload above MAX_PAYLOAD (R202) -/

theorem putEnvelope_of_lt {s : State} {payload : List Byte}
    (h : s.par.raw.maxPayload < payload.length) (seq cks : Byte) :
    putEnvelope s seq cks payload = .error (.payloadTooLarge (tooLarge payload)) := by
  rw [putEnvelope_eq, if_pos h]

theorem execFrame_of_lt {payload : List Byte} {s : State}
    (h : s.par.raw.maxPayload < payload.length) (seq : Byte) :
    execFrame seq payload s = .refused (.payloadTooLarge (tooLarge payload)) := by
  rw [execFrame, buildFrame, putEnvelope_of_lt h]

theorem execEnvelope_of_lt {payload : List Byte} {s : State}
    (h : s.par.raw.maxPayload < payload.length) (seq cks : Byte) :
    execEnvelope seq cks payload s = .refused (.payloadTooLarge (tooLarge payload)) := by
  rw [execEnvelope, putEnvelope_of_lt h]

/-! ## The statements -/

/-- Settles O21: FRAME's two equations, by the payload's length. Its envelope is read by position;
MAX_PAYLOAD is below 2^32 (00_scope R8), so the length field holds the length. -/
theorem frameBuildsTheEnvelope : Obligations.FrameBuildsTheEnvelope := by
  obtain ⟨-, hsync0, hsync1, -⟩ := Config.params_hasDocLiterals
  refine ⟨hsync0, hsync1, fun _ _ _ => rfl, fun seq payload s => ⟨fun hlt => ?_, fun hle => ?_⟩⟩
  · exact execFrame_of_lt hlt seq
  · have hnext : exec (.frame seq payload) s = _ := execFrame_of_le seq hle
    have hfits : payload.length < 4294967296 := hle.trans_lt s.par.max_lt
    exact ⟨_, frameBytes s.par.raw payload seq, hnext, rfl, frameBytes_length _ _ _,
      envelopeBytes_sync0 _ _ _ _, envelopeBytes_sync1 _ _ _ _, envelopeBytes_seq _ _ _ _,
      envelopeBytes_lengthField hfits _ _ _, envelopeBytes_checksum _ _ _ _,
      envelopeBytes_payload _ _ _ _,
      (putEnvelope_holds s seq _ payload).of_same (fun _ => rfl) rfl, exec_frame hnext⟩

/-- Settles O22: the sequence byte is byte 2 of the envelope and the payload is what follows byte 7,
so an envelope gives both back. -/
theorem envelopesAreInjective : Obligations.EnvelopesAreInjective := by
  intro p q1 q2 x y _ _ heq
  constructor
  · calc q1 = (frameBytes p.raw x q1).getD 2 0 := (envelopeBytes_seq _ _ _ _).symm
      _ = (frameBytes p.raw y q2).getD 2 0 := by rw [heq]
      _ = q2 := envelopeBytes_seq _ _ _ _
  · calc x = (frameBytes p.raw x q1).drop 8 := (envelopeBytes_payload _ _ _ _).symm
      _ = (frameBytes p.raw y q2).drop 8 := by rw [heq]
      _ = y := envelopeBytes_payload _ _ _ _

/-- Settles O23: both operations leave the envelope in EB by `putEnvelope`, which checks the length
first. -/
theorem anOversizedPayloadIsRefused : Obligations.AnOversizedPayloadIsRefused :=
  fun seq cks _ _ h => ⟨execFrame_of_lt h seq, execEnvelope_of_lt h seq cks⟩

end Sys2Proof.Machine
end

section
/-! PROOFS. The stream controller's statements (45_stream_controller R220 to R239). Each operation
of the main loop is first an equation in its phase. What every operation keeps (SEQ, a silent TXLOG,
a framed TXLOG) is one lemma over the operations. An iteration is followed from its last phase back
to its first, each move by the statement about its operation. -/

namespace Sys2Proof.Machine

/-! ## TRANSMIT (R225) -/

/-- An answer R225 allows completes with R225's effect. -/
theorem sendEnvelope_of_allowed {s : State} {a : TxDraw}
    (hl : s.ebLen ≤ s.par.raw.maxPayload + 8) (ha : TxAllowed s a) :
    ∃ r u, sendEnvelope s a = .ok (r, u) ∧ TransmitEffect s (u.returns r) a := by
  have hbytes := txBytesOf_of hl ha
  obtain ⟨o, d⟩ := a
  cases o <;>
  · simp only [sendEnvelope, hbytes]
    exact ⟨_, _, rfl, rfl, rfl, rfl, rfl⟩

/-- A failure cannot deliver more than the envelope (vector T-SC-15). -/
theorem sendEnvelope_of_lt {s : State} {a : TxDraw} (ho : a.outcome ≠ .ok)
    (h : s.ebLen < a.delivered.toNat) : sendEnvelope s a = .error .deliveredOutOfRange := by
  obtain ⟨o, d⟩ := a
  cases o
  case ok => exact absurd rfl ho
  all_goals simp only [sendEnvelope, txBytesOf, if_pos h]

/-- Moving on to the next phase is no part of a transmit's effect. -/
theorem TransmitEffect.goto {s u : State} {a : TxDraw} {r : Ret}
    (h : TransmitEffect s (u.returns r) a) (p : Phase) :
    TransmitEffect s ((u.goto p).returns r) a := h

theorem State.Sent.streaming_of_failure {s u : State} {a : TxDraw} (h : s.Sent a u)
    (ho : a.outcome ≠ .ok) : u.streaming = false := by
  obtain ⟨n, -, -, ⟨hok, -⟩ | ⟨-, rfl⟩⟩ := h
  · exact absurd hok ho
  · rfl

/-! ## A command byte (R221, 30_encoding R96) -/

@[simp] theorem runCommand_cmdq (s : State) (b : Byte) : (runCommand s b).cmdq = s.cmdq :=
  runCommand_frame s b .cmdq (by simp)

@[simp] theorem runCommand_sendCnt (s : State) (b : Byte) :
    (runCommand s b).sendCnt = if b = s.par.raw.cmdStart then 0 else s.sendCnt := by
  by_cases h : b = s.par.raw.cmdStart
  · rw [if_pos h, h, runCommand_start, State.startStreaming_sendCnt]
  · rw [if_neg h, runCommand_stop h, State.stopStreaming_sendCnt]

/-! ## The operations one by one, in their phases -/

theorem exec_hostCmd (b : Byte) (s : State) :
    exec (.hostCmd b) s = .next ((s.pushCmd b).returns .none) := rfl

theorem exec_transmit_of_ok {s u : State} {a : TxDraw} {r : Ret}
    (h : sendEnvelope s a = .ok (r, u)) : exec (.transmit a) s = .next (u.returns r) := by
  show execTransmit a s = _
  simp only [execTransmit, h]

theorem exec_transmit_of_error {s : State} {a : TxDraw} {e : Refusal}
    (h : sendEnvelope s a = .error e) : exec (.transmit a) s = .refused e := by
  show execTransmit a s = _
  simp only [execTransmit, h]

theorem exec_mlImgTake_of_ready {s : State} (hp : s.phase = .imgTake)
    (hr : s.handoff.rdy = true) :
    exec .mlImgTake s = .next ((s.takeView.goto .imgBuild).returns .none) := by
  show execMlImgTake s = _
  simp only [execMlImgTake, inPhase_of _ hp, takeReady_ready hr, hr, if_true, outcome]

theorem exec_mlImgTake_of_notReady {s : State} (hp : s.phase = .imgTake)
    (hr : s.handoff.rdy = false) :
    exec .mlImgTake s = .next ((s.goto .radPoll).returns .none) := by
  show execMlImgTake s = _
  simp [execMlImgTake, inPhase_of _ hp, takeReady_notReady hr, hr, outcome]

/-- ML_IMG_BUILD, in its phase, advances SEQ and releases the view whatever it framed (R223). -/
theorem exec_mlImgBuild_of {s u : State} {draw : Option StaleDraw} (hp : s.phase = .imgBuild)
    (h : buildImage s draw = .ok u) :
    exec (.mlImgBuild draw) s =
      .next ((u.advanceSeq.releaseView.goto .imgTx).returns .none) := by
  show execMlImgBuild draw s = _
  simp only [execMlImgBuild, inPhase_of _ hp, h, outcome]

theorem buildImage_fresh {s : State} {v : Bool} (hv : s.view = some v) (hs : s.viewStale = false) :
    buildImage s none =
      .ok (s.withEnvelope s.seq
        (checksum s.par.raw (s.readBytes (.fb v) 0 s.par.raw.imgFrameBytes))
        (s.readBytes (.fb v) 0 s.par.raw.imgFrameBytes)) := by
  have hview := viewBytes_fresh hv hs (Nat.zero_add s.par.raw.imgFrameBytes).le
  simp only [buildImage, hs, hview, buildFrame]
  exact putEnvelope_of_le (by simpa using s.par.img_le)

theorem buildImage_stale {s : State} {d : StaleDraw} (hs : s.viewStale = true)
    (hd : d.payload.length = s.par.raw.imgFrameBytes) :
    buildImage s (some d) = .ok (s.withEnvelope s.seq d.checksum d.payload) := by
  simp only [buildImage, hs, if_pos hd]
  exact putEnvelope_of_le (hd.le.trans s.par.img_le)

theorem exec_mlImgTx_of_ok {s u : State} {a : TxDraw} {r : Ret} (hp : s.phase = .imgTx)
    (hs : s.streaming = true) (h : sendEnvelope s a = .ok (r, u)) :
    exec (.mlImgTx (some a)) s = .next ((u.goto .radPoll).returns r) := by
  show execMlImgTx (some a) s = _
  simp only [execMlImgTx, inPhase_of _ hp, hs, h, outcome]

theorem exec_mlImgTx_of_error {s : State} {a : TxDraw} {e : Refusal} (hp : s.phase = .imgTx)
    (hs : s.streaming = true) (h : sendEnvelope s a = .error e) :
    exec (.mlImgTx (some a)) s = .refused e := by
  show execMlImgTx (some a) s = _
  simp only [execMlImgTx, inPhase_of _ hp, hs, h, outcome]

/-- With STREAMING = 0 the envelope is abandoned (R224). -/
theorem exec_mlImgTx_idle {s : State} (hp : s.phase = .imgTx) (hs : s.streaming = false) :
    exec (.mlImgTx none) s = .next ((s.goto .radPoll).returns .none) := by
  show execMlImgTx none s = _
  simp only [execMlImgTx, inPhase_of _ hp, hs, outcome]

theorem exec_mlRadPoll {s : State} (hp : s.phase = .radPoll) :
    exec .mlRadPoll s =
      .next ((s.goto (if s.avail then .radDrain else .cmd)).returns .none) :=
  inPhase_of _ hp

/-- What follows a drain moves no byte (R227). -/
theorem afterDrain_readBytes (r : Ret) (s : State) (sp : Space) (a n : Nat) :
    (afterDrain r s).readBytes sp a n = s.readBytes sp a n :=
  State.readBytes_congr s _ sp sp a a n fun _ _ => afterDrain_frame r s (.space sp) (by simp) _

/-- A radar frame fits an envelope (00_scope R8), so while streaming it is always framed (R228). -/
theorem exec_mlRadBuild_streaming {s : State} (hp : s.phase = .radBuild)
    (hs : s.streaming = true) :
    exec .mlRadBuild s =
      .next (((s.withEnvelope s.seq
        (checksum s.par.raw (s.readBytes .rb 0 s.par.raw.radarFrameBytes))
        (s.readBytes .rb 0 s.par.raw.radarFrameBytes)).advanceSeq.goto .radTx).returns .none) := by
  have hread := memRead_of_le (s := s) (sp := .rb) (Nat.zero_add s.par.raw.radarFrameBytes).le
  have hfits : (s.readBytes .rb 0 s.par.raw.radarFrameBytes).length ≤ s.par.raw.maxPayload := by
    simpa using s.par.radar_le
  show execMlRadBuild s = _
  simp only [execMlRadBuild, inPhase_of _ hp, hs, if_true, hread, buildFrame,
    putEnvelope_of_le hfits, outcome]

theorem exec_mlRadBuild_idle {s : State} (hp : s.phase = .radBuild) (hs : s.streaming = false) :
    exec .mlRadBuild s = .next ((s.goto .cmd).returns .none) := by
  show execMlRadBuild s = _
  simp [execMlRadBuild, inPhase_of _ hp, hs, outcome]

theorem exec_mlRadTx_of_ok {s u : State} {a : TxDraw} {r : Ret} (hp : s.phase = .radTx)
    (hs : s.streaming = true) (h : sendEnvelope s a = .ok (r, u)) :
    exec (.mlRadTx a) s = .next ((u.goto .cmd).returns r) := by
  show execMlRadTx a s = _
  simp only [execMlRadTx, inPhase_of _ hp, hs, if_true, h, outcome]

theorem exec_mlRadTx_of_error {s : State} {a : TxDraw} {e : Refusal} (hp : s.phase = .radTx)
    (hs : s.streaming = true) (h : sendEnvelope s a = .error e) :
    exec (.mlRadTx a) s = .refused e := by
  show execMlRadTx a s = _
  simp only [execMlRadTx, inPhase_of _ hp, hs, if_true, h, outcome]

theorem exec_mlRadTx_idle {s : State} (hp : s.phase = .radTx) (hs : s.streaming = false)
    (a : TxDraw) :
    exec (.mlRadTx a) s = .next ((s.goto .cmd).returns .none) := by
  show execMlRadTx a s = _
  simp [execMlRadTx, inPhase_of _ hp, hs, outcome]

/-! ## What each operation does: the statements -/

/-- Settles O25: HOST_CMD is `pushCmd`. -/
theorem hostCommandIsQueued : Obligations.HostCommandIsQueued :=
  ⟨fun _ _ => rfl, fun b s => ⟨_, exec_hostCmd b s, rfl, rfl, exec_frame (exec_hostCmd b s)⟩⟩

/-- Settles O27: ML_CMD's check on an empty queue, on the start byte and on any other byte. -/
theorem mlCmdPerformsOneCommandByte : Obligations.MlCmdPerformsOneCommandByte := by
  refine ⟨fun _ => rfl, fun s hp => ?_⟩
  have hcmd : exec .mlCmd s = _ := execMlCmd_of hp
  refine ⟨_, hcmd, rfl, rfl, fun hq => ?empty, fun b rest hq => ?popped, exec_frame hcmd⟩
  case empty =>
    rw [checkCommand_nil hq]
    exact ⟨hq, rfl, rfl⟩
  case popped =>
    rw [checkCommand_cons hq]
    exact ⟨runCommand_cmdq _ b, runCommand_streaming _ b, runCommand_sendCnt _ b⟩

/-- Settles O28: the two cases of ML_IMG_TAKE by RDY; STREAMING is in neither. -/
theorem mlImgTakePollsTheBufferPair : Obligations.MlImgTakePollsTheBufferPair := by
  refine ⟨fun _ => rfl, fun s hp => ?_⟩
  cases hr : s.handoff.rdy
  · have htake := exec_mlImgTake_of_notReady hp hr
    exact ⟨_, htake, rfl, ⟨rfl, rfl, rfl, rfl⟩, exec_frame htake⟩
  · have htake := exec_mlImgTake_of_ready hp hr
    exact ⟨_, htake, rfl, ⟨rfl, rfl, rfl, rfl⟩, exec_frame htake⟩

/-- Settles O29: what `buildImage` leaves in EB, by the freshness of the view. -/
theorem mlImgBuildFramesTheTakenFrame : Obligations.MlImgBuildFramesTheTakenFrame := by
  refine ⟨fun _ => rfl, fun _ _ => rfl, fun s hp => ⟨fun v hv hs => ?fresh, fun hs d hd => ?stale⟩⟩
  case fresh =>
    have hbuild := exec_mlImgBuild_of hp (buildImage_fresh hv hs)
    exact ⟨_, hbuild, (putEnvelope_holds s s.seq _ _).of_same (fun _ => rfl) rfl, rfl, rfl, rfl,
      rfl, rfl, exec_frame hbuild⟩
  case stale =>
    have hbuild := exec_mlImgBuild_of hp (buildImage_stale hs hd)
    have hbytes : [s.par.raw.sync0, s.par.raw.sync1, s.seq] ++ le32 s.par.raw.imgFrameBytes ++
        [d.checksum] ++ d.payload = envelopeBytes s.par.raw s.seq d.checksum d.payload := by
      rw [← hd]; rfl
    rw [hbytes]
    exact ⟨_, hbuild, (putEnvelope_holds s s.seq _ _).of_same (fun _ => rfl) rfl, rfl, rfl, rfl,
      rfl, rfl, exec_frame hbuild⟩

/-- Settles O31: a transmit R225 allows has R225's effect (`sendEnvelope_of_allowed`). -/
theorem transmitDeliversOrStopsStreaming : Obligations.TransmitDeliversOrStopsStreaming := by
  refine ⟨fun _ _ => rfl, fun a s hl ha => ?_⟩
  obtain ⟨r, u, hsend, heffect⟩ := sendEnvelope_of_allowed hl ha
  have hexec := exec_transmit_of_ok hsend
  exact ⟨_, hexec, heffect, exec_frame hexec⟩

/-- Settles O30: ML_IMG_TX is that transmit while STREAMING = 1, and else only moves on. -/
theorem mlImgTxSendsOnlyWhileStreaming : Obligations.MlImgTxSendsOnlyWhileStreaming := by
  refine ⟨fun _ => rfl, fun _ _ => rfl, fun s hp hl => ⟨fun hs a ha => ?streaming, fun hs => ?idle⟩⟩
  case streaming =>
    obtain ⟨r, u, hsend, heffect⟩ := sendEnvelope_of_allowed hl ha
    have hexec := exec_mlImgTx_of_ok hp hs hsend
    exact ⟨_, hexec, heffect.goto .radPoll, rfl, exec_frame hexec⟩
  case idle => exact ⟨_, exec_mlImgTx_idle hp hs, rfl, rfl, s.goto_returns_frame _ _⟩

/-- Settles O36: as O30, with the answer there in both cases. -/
theorem mlRadTxSendsAndEndsTheIteration : Obligations.MlRadTxSendsAndEndsTheIteration := by
  refine ⟨fun _ _ => rfl, fun a s hp hl => ⟨fun hs ha => ?streaming, fun hs => ?idle⟩⟩
  case streaming =>
    obtain ⟨r, u, hsend, heffect⟩ := sendEnvelope_of_allowed hl ha
    have hexec := exec_mlRadTx_of_ok hp hs hsend
    exact ⟨_, hexec, heffect.goto .cmd, rfl, exec_frame hexec⟩
  case idle => exact ⟨_, exec_mlRadTx_idle hp hs a, rfl, rfl, s.goto_returns_frame _ _⟩

/-- Settles O32: the three transmits share `sendEnvelope`, which refuses (`sendEnvelope_of_lt`). -/
theorem aFailedTransmitDeliversAtMostTheEnvelope :
    Obligations.AFailedTransmitDeliversAtMostTheEnvelope := by
  intro a s ho hlt
  have hsend := sendEnvelope_of_lt ho hlt
  exact ⟨exec_transmit_of_error hsend, fun hp hs => exec_mlImgTx_of_error hp hs hsend,
    fun hp hs => exec_mlRadTx_of_error hp hs hsend⟩

/-- Settles O33: ML_RAD_POLL's equation. -/
theorem mlRadPollFollowsTheLatch : Obligations.MlRadPollFollowsTheLatch :=
  ⟨fun _ => rfl, fun s hp => ⟨_, exec_mlRadPoll hp, rfl, rfl, s.goto_returns_frame _ _⟩⟩

/-- Settles O34: the drain's two answers (R182), and for equal counts the fault byte, each followed
by `afterDrain`. -/
theorem mlRadDrainLogsAndContinues : Obligations.MlRadDrainLogsAndContinues := by
  refine ⟨fun _ _ => rfl, fun a s hp hl => ?_⟩
  by_cases he : s.par.raw.radarSamples = a.spf.toNat
  · have hdrain := exec_mlRadDrain_of hp (drainRadar_of_eq hl he)
    have hread := State.readBytes_writeBytes (s.setAvail false) .rb 0 a.data
    rw [hl] at hread
    simp only [if_pos he]
    by_cases hf : a.fault = 1
    · simp only [if_pos hf] at hdrain ⊢
      exact ⟨_, hdrain, rfl, ⟨(afterDrain_readBytes _ _ _ _ _).trans hread, rfl, rfl, rfl⟩,
        exec_frame hdrain⟩
    · simp only [if_neg hf] at hdrain ⊢
      exact ⟨_, hdrain, rfl, ⟨(afterDrain_readBytes _ _ _ _ _).trans hread, rfl, rfl, rfl⟩,
        exec_frame hdrain⟩
  · have hdrain := exec_mlRadDrain_of hp (drainRadar_of_ne hl he)
    simp only [if_neg he]
    exact ⟨_, hdrain, rfl, ⟨fun _ => rfl, rfl, rfl, rfl⟩, exec_frame hdrain⟩

/-- Settles O35: the two equations of ML_RAD_BUILD by STREAMING. -/
theorem mlRadBuildFramesOnlyWhileStreaming : Obligations.MlRadBuildFramesOnlyWhileStreaming := by
  refine ⟨fun _ => rfl, fun s hp => ⟨fun hs => ?streaming, fun hs => ?idle⟩⟩
  case streaming =>
    have hbuild := exec_mlRadBuild_streaming hp hs
    exact ⟨_, hbuild, (putEnvelope_holds s s.seq _ _).of_same (fun _ => rfl) rfl, rfl, rfl, rfl,
      exec_frame hbuild⟩
  case idle => exact ⟨_, exec_mlRadBuild_idle hp hs, rfl, rfl, s.goto_returns_frame _ _⟩

/-! ## SEQ, and who enters PH_RAD_TX -/

/-- FRAME_DONE writes the capture's elements, HANDOFF, the hazard mark and DIAGLOG only. -/
theorem notMem_writesOf_frameDone {e : Elem} (s : State)
    (h : e ∉ [.diaglog, .sel, .rdy, .viewStale, .lineIdx, .lbSlot, .ret]) :
    e ∉ writesOf s .frameDone := by
  rw [writesOf]
  split <;> simp_all

/-- An operation that builds an envelope from SEQ advances it (R230). -/
theorem exec_seq_of_builds {i : Instr} {s t : State} (hb : buildsIn s i = true)
    (h : exec i s = .next t) : t.seq = s.seq + 1 := by
  cases i
  case mlImgBuild draw => obtain ⟨-, cks, payload, -, rfl⟩ := execMlImgBuild_next h; rfl
  case mlRadBuild =>
    obtain ⟨-, ⟨hoff, -⟩ | ⟨-, cks, payload, -, rfl⟩⟩ := execMlRadBuild_next h
    · cases hb.symm.trans hoff
    · rfl
  all_goals cases hb

/-- No other operation but RESET writes SEQ. -/
theorem exec_seq_of_not_builds {i : Instr} {s t : State} (hb : buildsIn s i = false)
    (hr : i ≠ .reset) (h : exec i s = .next t) : t.seq = s.seq := by
  cases i
  case mlImgBuild draw => cases hb
  case mlRadBuild =>
    obtain ⟨-, ⟨-, rfl⟩ | ⟨hon, -⟩⟩ := execMlRadBuild_next h
    · rfl
    · cases hb.symm.trans hon
  case reset => exact absurd rfl hr
  case frameDone => exact exec_frame h .seq (notMem_writesOf_frameDone s (by simp))
  all_goals exact exec_frame h .seq (by simp [writesOf])

/-- Settles O39: SEQ as a byte, added modulo 256. -/
theorem seqAdvancesOncePerEnvelopeBuilt : Obligations.SeqAdvancesOncePerEnvelopeBuilt := by
  intro i s t h hr
  split
  case isTrue hb => simp [exec_seq_of_builds hb h, BitVec.toNat_add]
  case isFalse hb => rw [exec_seq_of_not_builds (Bool.not_eq_true _ ▸ hb) hr h]

/-- ML_RAD_BUILD is the only operation that leaves PHASE at PH_RAD_TX, and only while streaming. -/
theorem exec_enters_radTx {i : Instr} {s t : State} (h : exec i s = .next t)
    (hs : s.phase ≠ .radTx) (ht : t.phase = .radTx) : i = .mlRadBuild ∧ s.streaming = true := by
  cases i
  case mlCmd => obtain ⟨-, rfl⟩ := execMlCmd_next h; cases ht
  case mlImgTake => obtain ⟨-, ⟨-, rfl⟩ | ⟨-, rfl⟩⟩ := execMlImgTake_next h <;> cases ht
  case mlImgBuild draw => obtain ⟨-, cks, payload, -, rfl⟩ := execMlImgBuild_next h; cases ht
  case mlImgTx answer =>
    obtain ⟨-, ⟨-, -, rfl⟩ | ⟨-, a, u, r, -, -, rfl⟩⟩ := execMlImgTx_next h <;> cases ht
  case mlRadPoll =>
    obtain ⟨-, rfl⟩ := execMlRadPoll_next h
    rw [State.returns_phase, State.goto_phase] at ht
    split at ht <;> cases ht
  case mlRadDrain answer =>
    obtain ⟨-, -, r, rfl | rfl⟩ := execMlRadDrain_next h <;> cases r <;> cases ht
  case mlRadBuild =>
    obtain ⟨-, ⟨-, rfl⟩ | ⟨hon, -⟩⟩ := execMlRadBuild_next h
    · cases ht
    · exact ⟨rfl, hon⟩
  case mlRadTx answer =>
    obtain ⟨-, ⟨-, rfl⟩ | ⟨-, u, r, -, rfl⟩⟩ := execMlRadTx_next h <;> cases ht
  case reset => cases h; cases ht
  case frameDone =>
    exact absurd ((exec_frame h .phase (notMem_writesOf_frameDone s (by simp))).symm.trans ht) hs
  all_goals exact absurd ((exec_frame h .phase (by simp [writesOf])).symm.trans ht) hs

/-- The moves that write STREAMING run in another phase than PH_RAD_TX or leave it. -/
theorem exec_streaming_of_radTx {i : Instr} {s t : State} (hm : isMove i = true)
    (h : exec i s = .next t) (hs : s.phase = .radTx) (ht : t.phase = .radTx) :
    t.streaming = s.streaming := by
  cases i
  case mlCmd => obtain ⟨hp, -⟩ := execMlCmd_next h; cases hs.symm.trans hp
  case mlImgTx answer => obtain ⟨hp, -⟩ := execMlImgTx_next h; cases hs.symm.trans hp
  case mlRadTx answer =>
    obtain ⟨-, ⟨-, rfl⟩ | ⟨-, u, r, -, rfl⟩⟩ := execMlRadTx_next h <;> cases ht
  case reset => cases h; cases ht
  case transmit | cmdStart | cmdStop => cases hm
  case frameDone => exact exec_frame h .streaming (notMem_writesOf_frameDone s (by simp))
  all_goals exact exec_frame h .streaming (by simp [writesOf])

/-- Settles O57: `exec_enters_radTx`, and nothing that enters or stays clears STREAMING. -/
theorem radTxIsEnteredOnlyWhileStreaming : Obligations.RadTxIsEnteredOnlyWhileStreaming := by
  refine fun i s t hm h => ⟨exec_enters_radTx h, fun himp ht => ?_⟩
  by_cases hs : s.phase = .radTx
  · rw [exec_streaming_of_radTx hm h hs ht, himp hs]
  · obtain ⟨rfl, hon⟩ := exec_enters_radTx h hs ht
    exact (exec_frame h .streaming (by simp [writesOf])).trans hon

/-! ## A silent TXLOG (R233, R234) -/

/-- An ML_CMD that pops no start command starts nothing (R221). -/
theorem checkCommand_stays_stopped {s : State} (hpop : popsStart s .mlCmd = false)
    (hs : s.streaming = false) : (checkCommand s).streaming = false := by
  cases hq : s.cmdq with
  | nil => rwa [checkCommand_nil hq]
  | cons b rest =>
    rw [checkCommand_streaming hq]
    simpa [popsStart, hq] using hpop

/-- With STREAMING = 0, a move that pops no start command leaves STREAMING and, RESET apart,
TXLOG. -/
theorem exec_stays_silent {i : Instr} {s t : State} (hm : isMove i = true)
    (hpop : popsStart s i = false) (hs : s.streaming = false) (h : exec i s = .next t) :
    t.streaming = false ∧ (t.txlog = s.txlog ∨ i = .reset ∧ t.txlog = []) := by
  cases i
  case mlCmd =>
    have hlog := exec_frame h .txlog (by simp [writesOf])
    obtain ⟨-, rfl⟩ := execMlCmd_next h
    exact ⟨checkCommand_stays_stopped hpop hs, .inl hlog⟩
  case mlImgTx answer =>
    obtain ⟨-, ⟨-, -, rfl⟩ | ⟨hon, -⟩⟩ := execMlImgTx_next h
    · exact ⟨hs, .inl rfl⟩
    · cases hs.symm.trans hon
  case mlRadTx answer =>
    obtain ⟨-, ⟨-, rfl⟩ | ⟨hon, -⟩⟩ := execMlRadTx_next h
    · exact ⟨hs, .inl rfl⟩
    · cases hs.symm.trans hon
  case reset => cases h; exact ⟨rfl, .inr ⟨rfl, rfl⟩⟩
  case transmit | cmdStart | cmdStop => cases hm
  case frameDone =>
    exact ⟨(exec_frame h .streaming (notMem_writesOf_frameDone s (by simp))).trans hs,
      .inl (exec_frame h .txlog (notMem_writesOf_frameDone s (by simp)))⟩
  all_goals
    exact ⟨(exec_frame h .streaming (by simp [writesOf])).trans hs,
      .inl (exec_frame h .txlog (by simp [writesOf]))⟩

/-- `exec_stays_silent` along a run. -/
theorem NoStartPopped.stays_silent {is : List Instr} {s t : State} (hn : NoStartPopped is s)
    (h : execAll is s = .next t) (hs : s.streaming = false) :
    t.streaming = false ∧ (s.txlog = [] → t.txlog = []) ∧ (.reset ∉ is → t.txlog = s.txlog) := by
  induction is generalizing s with
  | nil => cases h; exact ⟨hs, id, fun _ => rfl⟩
  | cons i is ih =>
    obtain ⟨hm, hpop, hrest⟩ := hn
    obtain ⟨s1, hi, his⟩ := execAll_cons_next.1 h
    obtain ⟨hs1, hlog⟩ := exec_stays_silent hm hpop hs hi
    obtain ⟨ht, hempty, hkeep⟩ := ih (hrest s1 hi) his hs1
    refine ⟨ht, fun h0 => hempty ?_, fun hr => ?_⟩
    · obtain hsame | ⟨-, hcleared⟩ := hlog
      · rw [hsame, h0]
      · exact hcleared
    · obtain ⟨hne, hris⟩ := List.ne_and_not_mem_of_not_mem_cons hr
      obtain hsame | ⟨rfl, -⟩ := hlog
      · exact (hkeep hris).trans hsame
      · exact absurd rfl hne

/-- Settles O40: `NoStartPopped.stays_silent`. -/
theorem nothingIsSentBeforeAStart : Obligations.NothingIsSentBeforeAStart :=
  fun _ _ _ hs hn h => hn.stays_silent h hs

/-- A failed transmit clears STREAMING, in whichever of the three operations (R225). -/
theorem exec_failedTransmit_stops {a : TxDraw} {i : Instr} {s t : State} (ho : a.outcome ≠ .ok)
    (hi : i = .transmit a ∨ i = .mlImgTx (some a) ∨ (i = .mlRadTx a ∧ s.streaming = true))
    (h : exec i s = .next t) : t.streaming = false := by
  obtain rfl | rfl | ⟨rfl, hon⟩ := hi
  · obtain ⟨u, r, hu, rfl⟩ := execTransmit_next h
    exact hu.streaming_of_failure ho
  · obtain ⟨-, ⟨-, hnone, -⟩ | ⟨-, a', u, r, ha, hu, rfl⟩⟩ := execMlImgTx_next h
    · cases hnone
    · cases ha; exact hu.streaming_of_failure ho
  · obtain ⟨-, ⟨hoff, -⟩ | ⟨-, u, r, hu, rfl⟩⟩ := execMlRadTx_next h
    · cases hon.symm.trans hoff
    · exact hu.streaming_of_failure ho

/-- Settles O41: the failed transmit stops streaming, and the run after it is silent. -/
theorem aFailedTransmitSilencesTheLoop : Obligations.AFailedTransmitSilencesTheLoop := by
  intro a i s t ho hi h
  have ht := exec_failedTransmit_stops ho hi h
  refine ⟨ht, fun is u hn hrun => ?_⟩
  obtain ⟨hu, -, hkeep⟩ := hn.stays_silent hrun ht
  exact ⟨hu, hkeep⟩

/-! ## TXLOG as envelopes, whole or cut short (R232) -/

/-- What writes neither EB nor EB_LEN leaves the envelope EB holds. -/
theorem State.HoldsEnvelope.of_frame {s t : State} {xs : List Elem} (hs : s.HoldsEnvelope)
    (hf : Frame s t xs) (hp : t.par = s.par) (hb : .space .eb ∉ xs) (hl : .ebLen ∉ xs) :
    t.HoldsEnvelope := by
  have hlen : t.ebLen = s.ebLen := hf .ebLen hl
  have hread : t.readBytes .eb 0 s.ebLen = s.readBytes .eb 0 s.ebLen :=
    State.readBytes_congr s t _ _ 0 0 _ fun _ _ => hf (.space .eb) hb _
  rw [State.HoldsEnvelope, hlen, hp, hread]
  exact hs

/-- After an envelope is left in EB, EB holds it. -/
theorem State.holdsEnvelope_withEnvelope {s : State} (seq cks : Byte) {payload : List Byte}
    (hle : payload.length ≤ s.par.raw.maxPayload) :
    (s.withEnvelope seq cks payload).HoldsEnvelope := by
  obtain ⟨hread, hlen, -⟩ := putEnvelope_holds s seq cks payload
  refine .inr ⟨seq, cks, payload, hle, rfl, ?_⟩
  rw [hlen]
  exact hread

/-- What a transmit appends is the first bytes of the envelope EB holds, so TXLOG stays framed. -/
theorem State.Sent.txFramed {s u : State} {a : TxDraw} (h : s.Sent a u) (he : s.HoldsEnvelope)
    (hf : TxFramed s.par.raw s.txlog) : TxFramed s.par.raw u.txlog := by
  obtain ⟨n, hn, -, hu⟩ := h
  have hlog : u.txlog = s.txlog ++ s.readBytes .eb 0 n := by
    obtain ⟨-, rfl⟩ | ⟨-, rfl⟩ := hu <;> rfl
  rw [hlog, ← s.readBytes_take .eb 0 s.ebLen n hn]
  obtain h0 | ⟨seq, cks, payload, hfits, -, hread⟩ := he
  · rw [h0, State.readBytes, List.take_nil, List.append_nil]
    exact hf
  · rw [hread]
    exact .send s.txlog seq cks payload n hf hfits

/-- Every operation that writes EB leaves an envelope in it. -/
theorem exec_keeps_holdsEnvelope {i : Instr} {s t : State} (hs : s.HoldsEnvelope)
    (h : exec i s = .next t) : t.HoldsEnvelope := by
  have hf := exec_frame h
  have hp := exec_par h
  cases i
  case frame seq payload =>
    obtain ⟨hle, rfl⟩ := execFrame_next h
    exact (State.holdsEnvelope_withEnvelope seq _ hle).of_frame (State.returns_frame _ _) rfl
      (by simp) (by simp)
  case envelope seq cks payload =>
    obtain ⟨hle, rfl⟩ := execEnvelope_next h
    exact (State.holdsEnvelope_withEnvelope seq cks hle).of_frame (State.returns_frame _ _) rfl
      (by simp) (by simp)
  case mlImgBuild draw =>
    obtain ⟨-, cks, payload, hl, rfl⟩ := execMlImgBuild_next h
    exact (State.holdsEnvelope_withEnvelope s.seq cks (hl.le.trans s.par.img_le)).of_frame
      (((State.advanceSeq_frame _).comp (State.releaseView_frame _)).comp
        (State.goto_returns_frame _ _ _)) rfl (by simp) (by simp)
  case mlRadBuild =>
    obtain ⟨-, ⟨-, rfl⟩ | ⟨-, cks, payload, hl, rfl⟩⟩ := execMlRadBuild_next h
    · exact hs.of_frame (s.goto_returns_frame _ _) rfl (by simp) (by simp)
    · exact (State.holdsEnvelope_withEnvelope s.seq cks (hl.le.trans s.par.radar_le)).of_frame
        ((State.advanceSeq_frame _).comp (State.goto_returns_frame _ _ _)) rfl (by simp) (by simp)
  case reset => cases h; exact .inl rfl
  case frameDone =>
    exact hs.of_frame hf hp (notMem_writesOf_frameDone s (by simp))
      (notMem_writesOf_frameDone s (by simp))
  all_goals exact hs.of_frame hf hp (by simp [writesOf]) (by simp [writesOf])

/-- TXLOG is written by the transmits, which send from EB, and by RESET, which empties it. -/
theorem exec_keeps_txFramed {i : Instr} {s t : State} (he : s.HoldsEnvelope)
    (hs : TxFramed s.par.raw s.txlog) (h : exec i s = .next t) : TxFramed s.par.raw t.txlog := by
  have keep (hlog : t.txlog = s.txlog) : TxFramed s.par.raw t.txlog := hlog ▸ hs
  cases i
  case transmit answer =>
    obtain ⟨u, r, hu, rfl⟩ := execTransmit_next h
    exact hu.txFramed he hs
  case mlImgTx answer =>
    obtain ⟨-, ⟨-, -, rfl⟩ | ⟨-, a, u, r, -, hu, rfl⟩⟩ := execMlImgTx_next h
    · exact hs
    · exact hu.txFramed he hs
  case mlRadTx answer =>
    obtain ⟨-, ⟨-, rfl⟩ | ⟨-, u, r, hu, rfl⟩⟩ := execMlRadTx_next h
    · exact hs
    · exact hu.txFramed he hs
  case reset => cases h; exact .empty
  case frameDone => exact keep (exec_frame h .txlog (notMem_writesOf_frameDone s (by simp)))
  all_goals exact keep (exec_frame h .txlog (by simp [writesOf]))

/-- `fetch` leaves EB and TXLOG. -/
theorem fetch_frame {s s1 : State} {i : Instr} (h : fetch s = .ok (i, s1)) :
    Frame s s1 [.trace, .draws] := by
  obtain ⟨-, -, rfl⟩ | ⟨rest, -, rfl⟩ := fetch_ok h <;> simp [frame_iff]

/-- Settles O42: a step is an operation in a state that agrees on EB and TXLOG, and every operation
keeps both clauses. -/
theorem txLogStaysAConcatenationOfEnvelopes :
    Obligations.TxLogStaysAConcatenationOfEnvelopes := by
  intro s t he hs h
  obtain ⟨i, s1, hfetch, hexec⟩ := step_next h
  have hf := fetch_frame hfetch
  have hp := fetch_par hfetch
  have he1 : s1.HoldsEnvelope := he.of_frame hf hp (by simp) (by simp)
  have hs1 : TxFramed s1.par.raw s1.txlog := by
    rw [hp, show s1.txlog = s.txlog from hf .txlog (by simp)]
    exact hs
  refine ⟨exec_keeps_holdsEnvelope he1 hexec, ?_⟩
  rw [exec_par hexec]
  exact exec_keeps_txFramed he1 hs1 hexec

/-! ## The CONSUMER's own move (R220, log entries 5 and 6) -/

theorem step_of_empty_trace {s : State} (ht : s.trace = []) :
    step s = exec (consumerOp s) s.drawOnce := by
  simp only [step, fetch, ht]

@[simp] theorem freeBytes_length (f : Nat → Byte) (n : Nat) : (freeBytes f n).length = n := by
  simp [freeBytes]

/-- The free answer delivers no more than EB_LEN, as R225 asks. -/
theorem freeTx_allowed (s : State) : TxAllowed s (freeTx s) := by
  have hlt : Config.txDelivered s.draws % (min s.ebLen 4294967295 + 1) <
      min s.ebLen 4294967295 + 1 := Nat.mod_lt _ (by omega)
  refine .inr ?_
  rw [freeTx, BitVec.toNat_ofNat]
  omega

/-- The free draws are the ones the state asks for (30_encoding R99). -/
theorem consumerOp_wellFormed (s : State) : WellFormed s.ctx (consumerOp s) = true := by
  cases hp : s.phase <;> simp only [consumerOp, hp]
  case imgBuild =>
    cases hs : s.viewStale <;> simp [WellFormed, staleDrawOk, State.ctx, hs, freeStale]
  case imgTx => cases hs : s.streaming <;> simp [WellFormed, State.ctx, hs]
  case radDrain => simp [WellFormed, radarDrawOk, State.ctx, freeRadar]
  all_goals rfl

theorem encode_consumerOp_head (s : State) :
    (encode s.ctx (consumerOp s)).head? = some (0x10 + s.phase.code.zeroExtend 8) := by
  cases hp : s.phase <;> simp only [consumerOp, hp]
  case imgBuild => cases s.viewStale <;> rfl
  case imgTx => cases s.streaming <;> rfl
  all_goals rfl

/-- Settles O48: with no record `fetch` gives `consumerOp`, in each of the eight phases. -/
theorem withNoRecordTheConsumerMoves : Obligations.WithNoRecordTheConsumerMoves :=
  fun s ht => ⟨step_of_empty_trace ht, consumerOp_wellFormed s, encode_consumerOp_head s⟩

/-! ## One move in each phase, with no record pending -/

/-- No operation writes the pending records. -/
theorem trace_notMem_writesOf (s : State) (i : Instr) : .trace ∉ writesOf s i := by
  cases i
  case frameDone => exact notMem_writesOf_frameDone s (by simp)
  all_goals simp [writesOf, agentWrites]

theorem step_keeps_empty_trace {s t : State} (ht : s.trace = []) (h : step s = .next t) :
    t.trace = [] := by
  rw [step_of_empty_trace ht] at h
  exact (exec_frame h .trace (trace_notMem_writesOf _ _)).trans ht

/-- The operation of the move is the one PHASE names. -/
theorem step_eq_exec {s : State} {i : Instr} (ht : s.trace = []) (hop : consumerOp s = i) :
    step s = exec i s.drawOnce := by
  rw [step_of_empty_trace ht, hop]

theorem step_cmd {s : State} (ht : s.trace = []) (hp : s.phase = .cmd) :
    ∃ t, step s = .next t ∧ t.phase = .imgTake := by
  obtain ⟨t, hexec, hphase, -⟩ := mlCmdPerformsOneCommandByte.2 s.drawOnce hp
  exact ⟨t, (step_eq_exec ht (by simp [consumerOp, hp])).trans hexec, hphase⟩

/-- ML_IMG_TAKE leaves PH_IMG_BUILD only with a fresh view (R222). -/
theorem step_imgTake {s : State} (ht : s.trace = []) (hp : s.phase = .imgTake) :
    ∃ t, step s = .next t ∧
      ((t.phase = .imgBuild ∧ ∃ v, t.view = some v ∧ t.viewStale = false) ∨
        t.phase = .radPoll) := by
  obtain ⟨t, hexec, -, hcases, -⟩ := mlImgTakePollsTheBufferPair.2 s.drawOnce hp
  refine ⟨t, (step_eq_exec ht (by simp [consumerOp, hp])).trans hexec, ?_⟩
  split at hcases
  · obtain ⟨hphase, -, hview, hstale⟩ := hcases
    exact .inl ⟨hphase, _, hview, hstale⟩
  · exact .inr hcases.1

/-- An envelope of a payload that fits leaves EB_LEN in its range (10_state R24). -/
theorem HoldsInEb.ebLen_le {s t : State} {payload : List Byte} {seq : Byte}
    (h : HoldsInEb s t (frameBytes s.par.raw payload seq)) (hp : t.par = s.par)
    (hle : payload.length ≤ s.par.raw.maxPayload) : t.ebLen ≤ t.par.raw.maxPayload + 8 := by
  obtain ⟨-, hlen, -⟩ := h
  rw [hlen, hp, frameBytes_length]
  exact Nat.add_le_add_right hle 8

/-- ML_IMG_BUILD leaves an EB_LEN in its range (R223). -/
theorem step_imgBuild {s : State} {v : Bool} (ht : s.trace = []) (hp : s.phase = .imgBuild)
    (hv : s.view = some v) (hs : s.viewStale = false) :
    ∃ t, step s = .next t ∧ t.phase = .imgTx ∧ t.ebLen ≤ t.par.raw.maxPayload + 8 := by
  obtain ⟨hspec, -⟩ := mlImgBuildFramesTheTakenFrame.2.2 s.drawOnce hp
  obtain ⟨t, hexec, hheld, -, -, -, hphase, -⟩ := hspec v hv hs
  exact ⟨t, (step_eq_exec ht (by simp [consumerOp, hp, hs])).trans hexec, hphase,
    hheld.ebLen_le (exec_par hexec) (by simpa using s.par.img_le)⟩

theorem step_imgTx {s : State} (ht : s.trace = []) (hp : s.phase = .imgTx)
    (hl : s.ebLen ≤ s.par.raw.maxPayload + 8) : ∃ t, step s = .next t ∧ t.phase = .radPoll := by
  obtain ⟨hsend, hidle⟩ := mlImgTxSendsOnlyWhileStreaming.2.2 s.drawOnce hp hl
  cases hs : s.streaming
  · obtain ⟨t, hexec, hphase, -⟩ := hidle hs
    exact ⟨t, (step_eq_exec ht (by simp [consumerOp, hp, hs])).trans hexec, hphase⟩
  · obtain ⟨t, hexec, -, hphase, -⟩ := hsend hs (freeTx s) (freeTx_allowed s)
    exact ⟨t, (step_eq_exec ht (by simp [consumerOp, hp, hs])).trans hexec, hphase⟩

theorem step_radPoll {s : State} (ht : s.trace = []) (hp : s.phase = .radPoll) :
    ∃ t, step s = .next t ∧ (t.phase = .radDrain ∨ t.phase = .cmd) := by
  obtain ⟨t, hexec, hphase, -⟩ := mlRadPollFollowsTheLatch.2 s.drawOnce hp
  refine ⟨t, (step_eq_exec ht (by simp [consumerOp, hp])).trans hexec, ?_⟩
  rw [hphase]
  split <;> simp

theorem step_radDrain {s : State} (ht : s.trace = []) (hp : s.phase = .radDrain) :
    ∃ t, step s = .next t ∧ (t.phase = .radBuild ∨ t.phase = .cmd) := by
  obtain ⟨t, hexec, -, hcases, -⟩ := mlRadDrainLogsAndContinues.2 (freeRadar s) s.drawOnce hp
    (freeBytes_length _ _)
  refine ⟨t, (step_eq_exec ht (by simp [consumerOp, hp])).trans hexec, ?_⟩
  split at hcases
  · obtain ⟨-, hcases⟩ := hcases
    split at hcases
    · exact .inr hcases.1
    · exact .inl hcases.1
  · obtain ⟨-, hphase, -⟩ := hcases
    exact .inr hphase

/-- ML_RAD_BUILD leaves an EB_LEN in its range where it goes on to transmit (R228). -/
theorem step_radBuild {s : State} (ht : s.trace = []) (hp : s.phase = .radBuild) :
    ∃ t, step s = .next t ∧
      ((t.phase = .radTx ∧ t.ebLen ≤ t.par.raw.maxPayload + 8) ∨ t.phase = .cmd) := by
  obtain ⟨hbuild, hidle⟩ := mlRadBuildFramesOnlyWhileStreaming.2 s.drawOnce hp
  have hop := step_eq_exec ht (i := .mlRadBuild) (by simp [consumerOp, hp])
  cases hs : s.streaming
  · obtain ⟨t, hexec, hphase, -⟩ := hidle hs
    exact ⟨t, hop.trans hexec, .inr hphase⟩
  · obtain ⟨t, hexec, hheld, -, hphase, -⟩ := hbuild hs
    exact ⟨t, hop.trans hexec, .inl ⟨hphase,
      hheld.ebLen_le (exec_par hexec) (by simpa using s.par.radar_le)⟩⟩

theorem step_radTx {s : State} (ht : s.trace = []) (hp : s.phase = .radTx)
    (hl : s.ebLen ≤ s.par.raw.maxPayload + 8) : ∃ t, step s = .next t ∧ t.phase = .cmd := by
  obtain ⟨hsend, hidle⟩ := mlRadTxSendsAndEndsTheIteration.2 (freeTx s) s.drawOnce hp hl
  have hop := step_eq_exec ht (i := .mlRadTx (freeTx s)) (by simp [consumerOp, hp])
  cases hs : s.streaming
  · obtain ⟨t, hexec, hphase, -⟩ := hidle hs
    exact ⟨t, hop.trans hexec, hphase⟩
  · obtain ⟨t, hexec, -, hphase, -⟩ := hsend hs (freeTx_allowed s)
    exact ⟨t, hop.trans hexec, hphase⟩

/-! ## From each phase back to PH_CMD (R220, R239) -/

/-- Some number of steps between `lo` and `hi` completes in PH_CMD, with no record pending, and no
smaller number does. -/
def State.BackWithin (s : State) (lo hi : Nat) : Prop :=
  ∃ k t, lo ≤ k ∧ k ≤ hi ∧ runSteps k s = .next t ∧ t.phase = .cmd ∧ t.trace = [] ∧
    ∀ j, j < k → ∃ u, runSteps j s = .next u ∧ u.phase ≠ .cmd

theorem State.backWithin_of_cmd {s : State} (ht : s.trace = []) (hp : s.phase = .cmd) (hi : Nat) :
    s.BackWithin 0 hi :=
  ⟨0, s, le_rfl, hi.zero_le, rfl, hp, ht, fun _ hj => absurd hj (Nat.not_lt_zero _)⟩

theorem runSteps_succ_of_step {s s1 : State} (h : step s = .next s1) (k : Nat) :
    runSteps (k + 1) s = runSteps k s1 := by
  simp only [runSteps, h]

/-- One step outside PH_CMD adds one to both bounds. -/
theorem State.BackWithin.of_step {s s1 : State} {lo hi : Nat} (h1 : s1.BackWithin lo hi)
    (hp : s.phase ≠ .cmd) (h : step s = .next s1) : s.BackWithin (lo + 1) (hi + 1) := by
  obtain ⟨k, t, hlo, hhi, hrun, hphase, htrace, hbefore⟩ := h1
  refine ⟨k + 1, t, by omega, by omega, (runSteps_succ_of_step h k).trans hrun, hphase, htrace,
    fun j hj => ?_⟩
  cases j with
  | zero => exact ⟨s, rfl, hp⟩
  | succ j =>
    rw [runSteps_succ_of_step h]
    exact hbefore j (by omega)

theorem State.BackWithin.mono {s : State} {lo hi lo' hi' : Nat} (h : s.BackWithin lo hi)
    (hlo : lo' ≤ lo) (hhi : hi ≤ hi') : s.BackWithin lo' hi' := by
  obtain ⟨k, t, h1, h2, hrest⟩ := h
  exact ⟨k, t, hlo.trans h1, h2.trans hhi, hrest⟩

theorem backWithin_radTx {s : State} (ht : s.trace = []) (hp : s.phase = .radTx)
    (hl : s.ebLen ≤ s.par.raw.maxPayload + 8) : s.BackWithin 1 1 := by
  obtain ⟨t, h, hcmd⟩ := step_radTx ht hp hl
  exact (State.backWithin_of_cmd (step_keeps_empty_trace ht h) hcmd 0).of_step (by simp [hp]) h

theorem backWithin_radBuild {s : State} (ht : s.trace = []) (hp : s.phase = .radBuild) :
    s.BackWithin 1 2 := by
  obtain ⟨t, h, ⟨hnext, hl⟩ | hcmd⟩ := step_radBuild ht hp
  all_goals
    have ht' := step_keeps_empty_trace ht h
    refine State.BackWithin.of_step (s1 := t) (lo := 0) (hi := 1) ?_ (by simp [hp]) h
  · exact (backWithin_radTx ht' hnext hl).mono (by decide) le_rfl
  · exact State.backWithin_of_cmd ht' hcmd 1

theorem backWithin_radDrain {s : State} (ht : s.trace = []) (hp : s.phase = .radDrain) :
    s.BackWithin 1 3 := by
  obtain ⟨t, h, hnext | hcmd⟩ := step_radDrain ht hp
  all_goals
    have ht' := step_keeps_empty_trace ht h
    refine State.BackWithin.of_step (s1 := t) (lo := 0) (hi := 2) ?_ (by simp [hp]) h
  · exact (backWithin_radBuild ht' hnext).mono (by decide) le_rfl
  · exact State.backWithin_of_cmd ht' hcmd 2

theorem backWithin_radPoll {s : State} (ht : s.trace = []) (hp : s.phase = .radPoll) :
    s.BackWithin 1 4 := by
  obtain ⟨t, h, hnext | hcmd⟩ := step_radPoll ht hp
  all_goals
    have ht' := step_keeps_empty_trace ht h
    refine State.BackWithin.of_step (s1 := t) (lo := 0) (hi := 3) ?_ (by simp [hp]) h
  · exact (backWithin_radDrain ht' hnext).mono (by decide) le_rfl
  · exact State.backWithin_of_cmd ht' hcmd 3

theorem backWithin_imgTx {s : State} (ht : s.trace = []) (hp : s.phase = .imgTx)
    (hl : s.ebLen ≤ s.par.raw.maxPayload + 8) : s.BackWithin 2 5 := by
  obtain ⟨t, h, hnext⟩ := step_imgTx ht hp hl
  exact (backWithin_radPoll (step_keeps_empty_trace ht h) hnext).of_step (by simp [hp]) h

theorem backWithin_imgBuild {s : State} {v : Bool} (ht : s.trace = []) (hp : s.phase = .imgBuild)
    (hv : s.view = some v) (hs : s.viewStale = false) : s.BackWithin 3 6 := by
  obtain ⟨t, h, hnext, hl⟩ := step_imgBuild ht hp hv hs
  exact (backWithin_imgTx (step_keeps_empty_trace ht h) hnext hl).of_step (by simp [hp]) h

theorem backWithin_imgTake {s : State} (ht : s.trace = []) (hp : s.phase = .imgTake) :
    s.BackWithin 2 7 := by
  obtain ⟨t, h, ⟨hnext, v, hv, hs⟩ | hnext⟩ := step_imgTake ht hp
  all_goals
    have ht' := step_keeps_empty_trace ht h
    refine State.BackWithin.of_step (s1 := t) (lo := 1) (hi := 6) ?_ (by simp [hp]) h
  · exact (backWithin_imgBuild ht' hnext hv hs).mono (by decide) le_rfl
  · exact (backWithin_radPoll ht' hnext).mono le_rfl (by decide)

/-- Settles O56: ML_CMD leaves PH_CMD, and from PH_IMG_TAKE it is 2 to 7 steps back
(`backWithin_imgTake`). -/
theorem anIterationTakesThreeToEightOperations :
    Obligations.AnIterationTakesThreeToEightOperations := by
  intro s ht hp
  obtain ⟨s1, h, hnext⟩ := step_cmd ht hp
  obtain ⟨k, t, hlo, hhi, hrun, hphase, htrace, hbefore⟩ :=
    backWithin_imgTake (step_keeps_empty_trace ht h) hnext
  refine ⟨k + 1, t, by omega, by omega, (runSteps_succ_of_step h k).trans hrun, hphase, htrace,
    fun j hpos hj => ?_⟩
  obtain ⟨j, rfl⟩ := Nat.exists_eq_add_one.2 hpos
  rw [runSteps_succ_of_step h]
  exact hbefore j (by omega)

/-! ## From a start command and a frame to TXLOG (R238) -/

/-- What no operation of a run writes is as it was after the run. -/
theorem execAll_agrees {e : Elem} {is : List Instr} {s t : State}
    (hw : ∀ i ∈ is, ∀ s, e ∉ writesOf s i) (h : execAll is s = .next t) : e.Agrees s t := by
  induction is generalizing s with
  | nil =>
    cases h
    exact Frame.refl _ e List.not_mem_nil
  | cons i is ih =>
    obtain ⟨hi, his⟩ := List.forall_mem_cons.1 hw
    obtain ⟨s1, hexec, hrun⟩ := execAll_cons_next.1 h
    exact Elem.agrees_trans (exec_frame hexec e (hi s)) (ih his hrun)

/-- GOODFRAME's operations are the capture's and the PRODUCER's (30_encoding R104, R99). -/
theorem agent_of_mem_linesOps {i : Instr} (count : Nat) {slot : Bool} {width : Nat}
    {data : List Byte} (h : i ∈ linesOps count slot width data) :
    i.agent = some .capture ∨ i.agent = some .producer := by
  induction count generalizing slot data with
  | zero => cases h
  | succ count ih =>
    obtain hline | hrest := List.mem_append.1 h
    · obtain rfl | rfl : i = .capWrite slot 0 (data.take width) ∨ i = .lineDone := by
        simpa [lineOps] using hline
      · exact .inl rfl
      · exact .inr rfl
    · exact ih hrest

theorem agent_of_mem_goodFrameOps {i : Instr} {s : State} {data : List Byte}
    (h : i ∈ goodFrameOps s data) : i.agent = some .capture ∨ i.agent = some .producer := by
  obtain hline | hdone := List.mem_append.1 h
  · exact agent_of_mem_linesOps _ hline
  · cases List.mem_singleton.1 hdone
    exact .inr rfl

/-- Capturing a frame leaves what the CONSUMER writes for itself (10_state R38). -/
theorem execAll_goodFrameOps_agrees {e : Elem} {s0 s t : State} {data : List Byte}
    (he : e ∈ [.phase, .cmdq, .avail, .seq, .txlog])
    (h : execAll (goodFrameOps s0 data) s = .next t) : e.Agrees s t := by
  have hothers (s : State) : e ∉ agentWrites s .capture ∧ e ∉ agentWrites s .producer := by
    simp only [List.mem_cons, List.not_mem_nil, or_false] at he
    obtain rfl | rfl | rfl | rfl | rfl := he <;> simp [agentWrites]
  refine execAll_agrees (fun i hi s hw => ?_) h
  obtain ⟨hcapture, hproducer⟩ := hothers s
  obtain ha | ha := agent_of_mem_goodFrameOps hi
  · exact hcapture (writesOf_subset_agentWrites s ha e hw)
  · exact hproducer (writesOf_subset_agentWrites s ha e hw)

/-- A STEP that does not end the iteration (30_encoding R104, R236). -/
theorem stepsToCmd_of_step {fuel : Nat} {s s1 : State} {i : Instr} {ds rest : List Draw}
    (hop : stepOp s ds = some (i, rest)) (h : exec i s = .next s1) (hp : s1.phase ≠ .cmd) :
    stepsToCmd (fuel + 1) ds s = stepsToCmd fuel rest s1 := by
  simp only [stepsToCmd, hop, h, if_neg hp]

/-- The STEP that ends it. -/
theorem stepsToCmd_of_last {fuel : Nat} {s s1 : State} {i : Instr} {ds rest : List Draw}
    (hop : stepOp s ds = some (i, rest)) (h : exec i s = .next s1) (hp : s1.phase = .cmd) :
    stepsToCmd (fuel + 1) ds s = .next s1 := by
  simp only [stepsToCmd, hop, h, if_pos hp]

/-- ML_CMD on a start command and ML_IMG_TAKE on a ready frame: streaming, with the completed buffer
in a fresh view (R221, R222). -/
theorem starts_and_takes {s : State} {rest : List Byte} (hp : s.phase = .cmd)
    (hq : s.cmdq = s.par.raw.cmdStart :: rest) (hr : s.handoff.rdy = true) :
    ∃ s1 s2, exec .mlCmd s = .next s1 ∧ s1.phase = .imgTake ∧ exec .mlImgTake s1 = .next s2 ∧
      s2.phase = .imgBuild ∧ s2.streaming = true ∧ s2.view = some (!s.handoff.sel) ∧
      s2.viewStale = false ∧
      Frame s s2 [.cmdq, .streaming, .sendCnt, .phase, .ret, .rdy, .view, .viewStale] := by
  obtain ⟨s1, hcmd, hp1, -, -, hpop, hf1⟩ := mlCmdPerformsOneCommandByte.2 s hp
  obtain ⟨-, hon, -⟩ := hpop _ _ hq
  have hr1 : s1.handoff.rdy = true := (hf1 .rdy (by simp)).trans hr
  have hsel : s1.handoff.sel = s.handoff.sel := hf1 .sel (by simp)
  obtain ⟨s2, htake, -, htaken, hf2⟩ := mlImgTakePollsTheBufferPair.2 s1 hp1
  rw [if_pos hr1, hsel] at htaken
  obtain ⟨hp2, -, hview, hstale⟩ := htaken
  have hon2 : s2.streaming = true :=
    (hf2 .streaming (by simp)).trans (hon.trans (decide_eq_true rfl))
  exact ⟨s1, s2, hcmd, hp1, htake, hp2, hon2, hview, hstale, (hf1.comp hf2).mono (by simp)⟩

/-- ML_IMG_BUILD of a fresh view and an ML_IMG_TX that TRANSPORT answers `Ok`: the frame's envelope
is in TXLOG (R223 to R225). -/
theorem builds_and_sends {s : State} {v : Bool} (hp : s.phase = .imgBuild)
    (hon : s.streaming = true) (hv : s.view = some v) (hs : s.viewStale = false) (n : U32) :
    ∃ s1 s2, exec (.mlImgBuild none) s = .next s1 ∧ s1.phase = .imgTx ∧ s1.streaming = true ∧
      exec (.mlImgTx (some { outcome := .ok, delivered := n })) s1 = .next s2 ∧
      s2.phase = .radPoll ∧ s2.avail = s.avail ∧ s2.seq = s.seq + 1 ∧
      s2.txlog = s.txlog ++
        frameBytes s.par.raw (s.readBytes (.fb v) 0 s.par.raw.imgFrameBytes) s.seq := by
  obtain ⟨hfresh, -⟩ := mlImgBuildFramesTheTakenFrame.2.2 s hp
  obtain ⟨s1, hbuild, hheld, hseq, -, -, hp1, -, hf1⟩ := hfresh v hv hs
  have hpar : s1.par = s.par := hf1 .par (by simp)
  have hlog1 : s1.txlog = s.txlog := hf1 .txlog (by simp)
  have havail1 : s1.avail = s.avail := hf1 .avail (by simp)
  have hon1 : s1.streaming = true := (hf1 .streaming (by simp)).trans hon
  have hle := hheld.ebLen_le hpar (by simpa using s.par.img_le)
  obtain ⟨hsend, -⟩ := mlImgTxSendsOnlyWhileStreaming.2.2 s1 hp1 hle
  obtain ⟨s2, htx, ⟨hlog, -⟩, hp2, hf2⟩ := hsend hon1 { outcome := .ok, delivered := n } (.inl rfl)
  obtain ⟨hread, hlen, -⟩ := hheld
  rw [hlog1, hlen, hread] at hlog
  exact ⟨s1, s2, hbuild, hp1, hon1, htx, hp2, (hf2 .avail (by simp)).trans havail1,
    (hf2 .seq (by simp)).trans hseq, hlog⟩

/-- An iteration that pops a start command, finds a ready frame and no burst, and is answered `Ok`
sends the frame's envelope under the present SEQ. -/
theorem iterate_sends_ready_frame {s : State} {rest : List Byte} (hp : s.phase = .cmd)
    (hq : s.cmdq = s.par.raw.cmdStart :: rest) (hr : s.handoff.rdy = true)
    (ha : s.avail = false) (n : U32) :
    ∃ u, iterate [.tx { outcome := .ok, delivered := n }] s = .next u ∧ u.seq = s.seq + 1 ∧
      u.txlog = s.txlog ++ frameBytes s.par.raw
        (s.readBytes (.fb (!s.handoff.sel)) 0 s.par.raw.imgFrameBytes) s.seq := by
  obtain ⟨s1, s2, hcmd, hp1, htake, hp2, hon2, hview, hstale, hf⟩ := starts_and_takes hp hq hr
  obtain ⟨s3, s4, hbuild, hp3, hon3, htx, hp4, havail, hseq, hlog⟩ :=
    builds_and_sends hp2 hon2 hview hstale n
  have hnoburst : s4.avail = false := havail.trans ((hf .avail (by simp)).trans ha)
  have hpoll := exec_mlRadPoll hp4
  rw [hnoburst, if_neg Bool.false_ne_true] at hpoll
  have hpar : s2.par = s.par := hf .par (by simp)
  have hseq2 : s2.seq = s.seq := hf .seq (by simp)
  have hlog2 : s2.txlog = s.txlog := hf .txlog (by simp)
  have hbytes : s2.readBytes (.fb (!s.handoff.sel)) 0 s.par.raw.imgFrameBytes =
      s.readBytes (.fb (!s.handoff.sel)) 0 s.par.raw.imgFrameBytes :=
    State.readBytes_congr s s2 _ _ 0 0 _ fun _ _ => hf (.space _) (by simp) _
  rw [hpar, hseq2, hlog2, hbytes] at hlog
  rw [hseq2] at hseq
  refine ⟨(s4.goto .cmd).returns .none, ?iterates, hseq, hlog⟩
  show stepsToCmd 8 _ s = _
  calc stepsToCmd 8 [.tx ⟨.ok, n⟩] s
      = stepsToCmd 7 [.tx ⟨.ok, n⟩] s1 :=
        stepsToCmd_of_step (by simp [stepOp, hp]) hcmd (by simp [hp1])
    _ = stepsToCmd 6 [.tx ⟨.ok, n⟩] s2 :=
        stepsToCmd_of_step (by simp [stepOp, hp1]) htake (by simp [hp2])
    _ = stepsToCmd 5 [.tx ⟨.ok, n⟩] s3 :=
        stepsToCmd_of_step (by simp [stepOp, hp2, hstale]) hbuild (by simp [hp3])
    _ = stepsToCmd 4 [] s4 :=
        stepsToCmd_of_step (by simp [stepOp, hp3, hon3]) htx (by simp [hp4])
    _ = .next ((s4.goto .cmd).returns .none) :=
        stepsToCmd_of_last (rest := []) (by simp [stepOp, hp4]) hpoll rfl

/-- Settles O43: HOST_CMD and the capture leave a queued start command and a ready frame
(`execAll_goodFrameOps`), which one iteration sends (`iterate_sends_ready_frame`). -/
theorem aStartedFrameReachesTheHost : Obligations.AStartedFrameReachesTheHost := by
  intro p data hl
  have hstart := exec_hostCmd p.raw.cmdStart (State.resetOf p)
  obtain ⟨t, hframe, hpar, hhandoff, hdata⟩ :=
    execAll_goodFrameOps (s := ((State.resetOf p).pushCmd p.raw.cmdStart).returns .none) rfl hl
  have hkept {e : Elem} (he : e ∈ [.phase, .cmdq, .avail, .seq, .txlog]) :=
    execAll_goodFrameOps_agrees he hframe
  have hphase : t.phase = .cmd := hkept (e := .phase) (by simp)
  have hcmdq : t.cmdq = [p.raw.cmdStart] := hkept (e := .cmdq) (by simp)
  have havail : t.avail = false := hkept (e := .avail) (by simp)
  have hseq : t.seq = 0 := hkept (e := .seq) (by simp)
  have hlog : t.txlog = [] := hkept (e := .txlog) (by simp)
  obtain ⟨u, hiterate, hseq', hlog'⟩ := iterate_sends_ready_frame (s := t) (rest := []) hphase
    (by rw [hcmdq, hpar]; rfl) (by rw [hhandoff]) havail 0
  refine ⟨t, u, execAll_cons_next.2 ⟨_, hstart, hframe⟩, hiterate, ?_, ?_⟩
  · rw [hlog', hlog, hseq, hpar, hhandoff]
    exact congrArg (fun bs => frameBytes p.raw bs 0) hdata
  · rw [hseq', hseq]
    rfl

end Sys2Proof.Machine
end

section
/-! PROOFS. RESET (70_reset_and_hazards R300): the registers take the values of 10_state R39, and
with nothing written yet every byte of storage reads as the draw of this RESET. -/

namespace Sys2Proof.Machine

/-- With nothing written since the last RESET, every space reads as that RESET's draw (R39). -/
theorem State.byteAt_of_store_empty {s : State} (h : s.store = Store.empty) (sp : Space) (a : Nat) :
    s.byteAt sp a = Config.powerOn s.powerUps sp a := by
  rw [State.byteAt, h, Store.empty_get, Memory.get?_nil, Option.getD_none]

/-- RESET completes in every state: the reset state of the same parameters, with the next draw of the
storage; only the pending records and the CONSUMER's draws stay (R300, log entry 16). -/
theorem exec_reset (s : State) :
    exec .reset s = .next
      { State.resetOf s.par with trace := s.trace, powerUps := s.powerUps + 1, draws := s.draws } :=
  rfl

/-- Settles O44: the registers' values are those `State.resetOf` lists (`exec_reset`), and the
storage, with nothing written, reads as the new draw (`State.byteAt_of_store_empty`). -/
theorem resetGivesEveryElementItsValue : Obligations.ResetGivesEveryElementItsValue := by
  refine ⟨fun _ => rfl, fun s => ⟨_, exec_reset s, ?_⟩⟩
  refine ⟨rfl, rfl, rfl, rfl, rfl, rfl, rfl, rfl, rfl, rfl, rfl, rfl, rfl, rfl, rfl, rfl, ?storage⟩
  case storage => exact State.byteAt_of_store_empty rfl

end Sys2Proof.Machine
end
